-- ==== Sys2Proof/Word.lean ====
section
/-! DEFINITION. The word types of the block: bytes, the 32-bit words and fourccs of ISO-BMFF boxes, the 16-bit pair of
CEA-608, and text as a sequence of code points (spec/00_scope.md R10). -/

namespace Sys2Proof

/-- One byte of an input space (20_memory.md R70). -/
abbrev Byte := BitVec 8

/-- A 32-bit big-endian field of a box (20_memory.md R81). -/
abbrev Word := BitVec 32

/-- A 4-byte box type read as a 32-bit number (30_encoding.md R101). -/
abbrev Fourcc := BitVec 32

/-- A CEA-608 pair after the parity strip, `(b1 << 8) | b2` (30_encoding.md R112). -/
abbrev Pair := BitVec 16

/-- A string is a sequence of Unicode code points (00_scope.md R10). -/
abbrev Str := List Char

end Sys2Proof
end

