-- ==== Sys2Proof/Syntax.lean ====
section
/-! DEFINITION. The instruction set: one constructor for each mnemonic of spec/opcode_table.json, with the operands that the
encoding gives it (spec/30_encoding.md R100-R134). An operand named `ign…` holds bits that no rule reads (93 U13); it is kept
so that no bit of an encoding is dropped. -/

namespace Sys2Proof

/-- The instructions of the block's nested input languages (00_scope.md R2). -/
inductive Instr where
  /-- BOX_SIZE_LITERAL, 30 R101, R103: a size word other than 0 and 1, then the type. -/
  | boxSizeLiteral (size : Word) (type : Fourcc)
  /-- BOX_SIZE_REST, 30 R103: size 0, the rest of the enclosing range. -/
  | boxSizeRest (type : Fourcc)
  /-- BOX_LARGESIZE, 30 R101: size 1, then the type, then a 64-bit size. -/
  | boxLargesize (type : Fourcc) (large : BitVec 64)
  /-- BOX_FULL_VF, 30 R102: the version and flags word of a FULL box. -/
  | boxFullVf (version : Byte) (flags : BitVec 24)
  /-- BOX_UNREGISTERED, 41 R154. -/
  | boxUnregistered (type : Fourcc)
  /-- BOX.moov, 41 R160. -/
  | boxMoov
  /-- BOX.trak, 41 R160. -/
  | boxTrak
  /-- BOX.mdia, 41 R160. -/
  | boxMdia
  /-- BOX.minf, 41 R160. -/
  | boxMinf
  /-- BOX.stbl, 41 R160. -/
  | boxStbl
  /-- BOX.mvex, 41 R160. -/
  | boxMvex
  /-- BOX.sinf, 41 R160. -/
  | boxSinf
  /-- BOX.stsd, 41 R158, R160. -/
  | boxStsd
  /-- BOX.avc1, 41 R160, R162. -/
  | boxAvc1
  /-- BOX.avc3, 41 R160, R162. -/
  | boxAvc3
  /-- BOX.hvc1, 41 R160, R162. -/
  | boxHvc1
  /-- BOX.hev1, 41 R160, R162. -/
  | boxHev1
  /-- BOX.encv, 41 R160, R162. -/
  | boxEncv
  /-- BOX.frma, 42 R190. -/
  | boxFrma
  /-- BOX.mvhd, 42 R182. -/
  | boxMvhd
  /-- BOX.tkhd, 42 R181. -/
  | boxTkhd
  /-- BOX.mdhd, 42 R183. -/
  | boxMdhd
  /-- BOX.trex, 42 R191. -/
  | boxTrex
  /-- BOX.moof, 41 R161. -/
  | boxMoof
  /-- BOX.traf, 41 R161. -/
  | boxTraf
  /-- BOX.tfhd, 42 R185. -/
  | boxTfhd
  /-- BOX.tfdt, 42 R187. -/
  | boxTfdt
  /-- BOX.trun, 42 R186. -/
  | boxTrun
  /-- BOX.mdat, 42 R193. -/
  | boxMdat
  /-- BOX.emsg, 42 R188: the version-0 layout. -/
  | boxEmsg
  /-- BOX.sidx, 42 R200. -/
  | boxSidx
  /-- BOX.elst, 42 R201. -/
  | boxElst
  /-- BOX.tenc, 42 R202. -/
  | boxTenc
  /-- BOX.prft, 42 R203. -/
  | boxPrft
  /-- BOX.emsg.v1, 42 R189: the version-1 layout. -/
  | boxEmsgV1
  /-- NAL.H264.SEI, 30 R105: 4-byte length, header byte with type 6; bits 7:5 not read. -/
  | nalH264Sei (len : Word) (ign : BitVec 3)
  /-- NAL.H264.other, 30 R105. -/
  | nalH264Other (len : Word) (header : Byte)
  /-- NAL.H265.SEI_PREFIX, 30 R106: type 0x27 in bits 6:1 of the first header byte. -/
  | nalH265SeiPre (len : Word) (ign7 ign0 : BitVec 1)
  /-- NAL.H265.SEI_SUFFIX, 30 R106: type 0x28. -/
  | nalH265SeiSuf (len : Word) (ign7 ign0 : BitVec 1)
  /-- NAL.H265.other, 30 R106. -/
  | nalH265Other (len : Word) (header : Byte)
  /-- NAL.SHORT, 43 R240: a NAL shorter than its header. -/
  | nalShort (len : Word)
  /-- SEI.T35, 30 R107: payload type 4. -/
  | seiT35 (size : Nat)
  /-- SEI.other, 30 R107: any other payload type. -/
  | seiOther (type size : Nat)
  /-- T35.ATSC_CC, 30 R108: the 8 header bytes and the flag byte with bit 6 set. -/
  | t35AtscCc (ign7 ign5 : BitVec 1) (count : BitVec 5)
  /-- T35.rejected, 43 R247: the bytes of the payload that were looked at (at most 9). -/
  | t35Rejected (bytes : List Byte)
  /-- CC.608.F0, 30 R109: valid, cc_type 0. -/
  | cc608F0 (ign : BitVec 5) (d1 d2 : Byte)
  /-- CC.608.F1, 30 R109: valid, cc_type 1. -/
  | cc608F1 (ign : BitVec 5) (d1 d2 : Byte)
  /-- CC.DTVCC_DATA, 30 R109: valid, cc_type 2. -/
  | ccDtvccData (ign : BitVec 5) (d1 d2 : Byte)
  /-- CC.DTVCC_START, 30 R109: valid, cc_type 3. -/
  | ccDtvccStart (ign : BitVec 5) (d1 d2 : Byte)
  /-- CC.INVALID, 43 R249: cc_valid 0. -/
  | ccInvalid (ign : BitVec 5) (type : BitVec 2) (d1 d2 : Byte)
  /-- 608.BAD_FRAME, 30 R111: the raw bytes. -/
  | bad608 (c1 c2 : Byte)
  /-- 608.NULL, 44 R283. -/
  | null608
  /-- 608.DUPLICATE, 44 R286: the channel bit, bits 2:0 of b1, and b2. -/
  | dup608 (chan : BitVec 1) (low : BitVec 3) (b2 : BitVec 7)
  /-- 608.PAC, 30 R114, R115: row index, attribute field, underline. -/
  | pac608 (chan : BitVec 1) (rowIdx attr : BitVec 4) (ul : BitVec 1)
  /-- 608.MIDROW, 30 R116. -/
  | midrow608 (chan : BitVec 1) (attr : BitVec 3) (ul : BitVec 1)
  /-- 608.BG, 30 R117 form 1: the low 4 bits of b2. -/
  | bg608 (chan : BitVec 1) (low : BitVec 4)
  /-- 608.BG_BLACK, 30 R117 form 2. -/
  | bgBlack608 (chan : BitVec 1)
  /-- 608.SPECIAL, 30 R118. -/
  | special608 (chan : BitVec 1) (idx : BitVec 4)
  /-- 608.EXTENDED, 30 R119: the table bit (LSB of b1) and the index. -/
  | extended608 (chan : BitVec 1) (table : BitVec 1) (idx : BitVec 5)
  /-- 608.RCL, 30 R120 (in every miscellaneous code `ign` is bit 0 of b1, which the masks clear). -/
  | rcl608 (chan ign : BitVec 1)
  /-- 608.BS, 30 R120. -/
  | bs608 (chan ign : BitVec 1)
  /-- 608.AOF, 30 R120. -/
  | aof608 (chan ign : BitVec 1)
  /-- 608.AON, 30 R120. -/
  | aon608 (chan ign : BitVec 1)
  /-- 608.DER, 30 R120. -/
  | der608 (chan ign : BitVec 1)
  /-- 608.RU2, 30 R120. -/
  | ru2608 (chan ign : BitVec 1)
  /-- 608.RU3, 30 R120. -/
  | ru3608 (chan ign : BitVec 1)
  /-- 608.RU4, 30 R120. -/
  | ru4608 (chan ign : BitVec 1)
  /-- 608.FON, 30 R120. -/
  | fon608 (chan ign : BitVec 1)
  /-- 608.RDC, 30 R120. -/
  | rdc608 (chan ign : BitVec 1)
  /-- 608.TR, 30 R120. -/
  | tr608 (chan ign : BitVec 1)
  /-- 608.RTD, 30 R120. -/
  | rtd608 (chan ign : BitVec 1)
  /-- 608.EDM, 30 R120. -/
  | edm608 (chan ign : BitVec 1)
  /-- 608.CR, 30 R120. -/
  | cr608 (chan ign : BitVec 1)
  /-- 608.ENM, 30 R120. -/
  | enm608 (chan ign : BitVec 1)
  /-- 608.EOC, 30 R120. -/
  | eoc608 (chan ign : BitVec 1)
  /-- 608.UNRECOGNIZED_CONTROL, 30 R112 class 7b. -/
  | unrecognized608 (chan : BitVec 1) (low : BitVec 3) (b2 : BitVec 7)
  /-- 608.BASIC, 30 R112 class 8: two characters. -/
  | basic608 (b1 b2 : BitVec 7)
  /-- DTVCC.PACKET_START, 30 R126: sequence (not read) and packet_size_code. -/
  | dtvccPacketStart (seq : BitVec 2) (code : BitVec 6)
  /-- DTVCC.DATA, 45 R362. -/
  | dtvccData (value : Byte)
  /-- SVC.HEADER, 30 R127. -/
  | svcHeader (svc : BitVec 3) (size : BitVec 5)
  /-- SVC.EXTENDED, 30 R127: service 7 with a nonzero size, and the second header byte. -/
  | svcExtended (size : BitVec 5) (ign : BitVec 2) (svc : BitVec 6)
  /-- SVC.NULL_OR_EMPTY, 45 R366. -/
  | svcNullOrEmpty (svc : BitVec 3) (size : BitVec 5)
  /-- C0.NOP, 30 R130. -/
  | c0Nop (code : Byte)
  /-- C0.BS, 0x08. -/
  | c0Bs
  /-- C0.FF, 0x0C. -/
  | c0Ff
  /-- C0.CR, 0x0D. -/
  | c0Cr
  /-- C0.HCR, 0x0E. -/
  | c0Hcr
  /-- EXT1, 0x10, 30 R128. -/
  | ext1
  /-- G0, 0x20-0x7E, 30 R133. -/
  | g0 (code : Byte)
  /-- G0.NOTE, 0x7F. -/
  | g0Note
  /-- CWx, 0x80-0x87. -/
  | cwx (x : BitVec 3)
  /-- CLW, 0x88. -/
  | clw (bitmap : Byte)
  /-- DSW, 0x89. -/
  | dsw (bitmap : Byte)
  /-- HDW, 0x8A. -/
  | hdw (bitmap : Byte)
  /-- TGW, 0x8B. -/
  | tgw (bitmap : Byte)
  /-- DLW, 0x8C. -/
  | dlw (bitmap : Byte)
  /-- DLY, 0x8D. -/
  | dly (p1 : Byte)
  /-- DLC, 0x8E. -/
  | dlc
  /-- RST, 0x8F. -/
  | rst
  /-- SPA, 0x90. -/
  | spa (p1 p2 : Byte)
  /-- SPC, 0x91. -/
  | spc (p1 p2 p3 : Byte)
  /-- SPL, 0x92. -/
  | spl (p1 p2 : Byte)
  /-- C1.RESERVED, 0x93-0x96. -/
  | c1Reserved (code : Byte)
  /-- SWA, 0x97. -/
  | swa (p1 p2 p3 p4 : Byte)
  /-- DFx, 0x98-0x9F. -/
  | dfx (x : BitVec 3) (p1 p2 p3 p4 p5 p6 : Byte)
  /-- G1, 0xA0-0xFF, 30 R133. -/
  | g1 (code : Byte)
  /-- C2.SKIP0, 0x1000-0x1007, 30 R132. -/
  | c2Skip0 (x : BitVec 3)
  /-- C2.SKIP1, 0x1008-0x100F. -/
  | c2Skip1 (x : BitVec 3) (p1 : Byte)
  /-- C2.SKIP2, 0x1010-0x1017. -/
  | c2Skip2 (x : BitVec 3) (p1 p2 : Byte)
  /-- C2.SKIP3, 0x1018-0x101F. -/
  | c2Skip3 (x : BitVec 3) (p1 p2 p3 : Byte)
  /-- G2, 0x1020-0x107F: the low byte of the extended code. -/
  | g2 (x : Byte)
  /-- C3.SKIP4, 0x1080-0x1087. -/
  | c3Skip4 (x : BitVec 3) (p1 p2 p3 p4 : Byte)
  /-- C3.SKIP5, 0x1088-0x108F. -/
  | c3Skip5 (x : BitVec 3) (p1 p2 p3 p4 p5 : Byte)
  /-- C3.SKIP0, 0x1090-0x109F. -/
  | c3Skip0 (x : BitVec 4)
  /-- G3, 0x10A0-0x10FF: the low byte of the extended code. -/
  | g3 (x : Byte)
  deriving DecidableEq, Repr

end Sys2Proof
end

