-- ==== Sys2Proof/Decode.lean ====
section
/-! DEFINITION. The decoder and, after it, the encoder, both from the encodings of spec/30_encoding.md. The block decodes
nested input languages (00_scope.md R2), so the decoder takes the language that is active (`Lang`) and the bytes from the
cursor on, and answers one instruction and how many bytes it takes, or rejects by name. -/

namespace Sys2Proof

/-- The registration table in force (41 R159): the init pass, the media pass, and a pass that registers the decoder-only boxes
of 42 R204, which no transaction runs (log entry 18). -/
inductive Pass where
  | init | media | fields
  deriving DecidableEq, Repr

/-- The two known bitstreams (43 R239). -/
inductive Codec where
  | h264 | h265
  deriving DecidableEq, Repr

/-- Whether a registered box is read as a full box (41 R150). -/
inductive BoxKind where
  | basic | full
  deriving DecidableEq, Repr

/-- The input language in force at a cursor (30 R100). -/
inductive Lang where
  /-- a box header: size word, type, largesize (30 R101) -/
  | boxHeader
  /-- the version and flags word of a FULL box (30 R102) -/
  | boxVf
  /-- the type of a box, looked up in the pass's table (41 R151); `v1` is whether the box's version is 1 -/
  | boxType (pass : Pass) (v1 : Bool)
  /-- a length-prefixed NAL unit (30 R105, R106) -/
  | nal (codec : Codec)
  /-- an SEI message header (30 R107) -/
  | sei
  /-- a T.35 payload (30 R108) -/
  | t35
  /-- a cc triple (30 R109) -/
  | triple
  /-- a raw 608 pair, with the last control pair of the channel it would go to (30 R112) -/
  | pair (last : Option Pair)
  /-- a byte of the 708 queue, with its start mark (43 R251) -/
  | dtvcc (start : Bool)
  /-- a service block header (30 R127) -/
  | svc
  /-- a 708 code (30 R128) -/
  | code
  /-- an extended 708 code, from its 0x10 byte on (30 R128) -/
  | codeExt
  deriving DecidableEq, Repr

/-- Why the decoder answers no instruction. -/
inductive DecodeError where
  /-- `need` bytes were wanted at offset `at_` from the cursor, and the range ends before them. -/
  | truncated (at_ need : Nat)
  deriving DecidableEq, Repr

/-- What the decoder answers: an instruction and the number of bytes it takes. -/
abbrev Decoded := Except DecodeError (Instr × Nat)

/-! ## Big-endian fields (20_memory.md R73, R81) -/

/-- A 16-bit big-endian field. -/
def be16 (a b : Byte) : BitVec 16 := a ++ b

/-- A 32-bit big-endian field. -/
def be32 (a b c d : Byte) : Word := a ++ b ++ c ++ d

/-- A 64-bit big-endian field. -/
def be64 (a b c d e f g h : Byte) : BitVec 64 := be32 a b c d ++ be32 e f g h

/-- The 4 bytes of a 32-bit field, most significant first. -/
def wordBytes (w : Word) : List Byte :=
  [w.extractLsb' 24 8, w.extractLsb' 16 8, w.extractLsb' 8 8, w.extractLsb' 0 8]

/-- The 8 bytes of a 64-bit field, most significant first. -/
def longBytes (w : BitVec 64) : List Byte :=
  wordBytes (w.extractLsb' 32 32) ++ wordBytes (w.extractLsb' 0 32)

/-! ## Boxes (30 R101-R103, 41 R160, R161) -/

/-- The init-pass registration table, 41 R160. -/
def initTable : List (Fourcc × BoxKind × Instr) :=
  [(0x6D6F6F76, .basic, .boxMoov), (0x7472616B, .basic, .boxTrak), (0x6D646961, .basic, .boxMdia),
   (0x6D696E66, .basic, .boxMinf), (0x7374626C, .basic, .boxStbl), (0x6D766578, .basic, .boxMvex),
   (0x73696E66, .basic, .boxSinf), (0x73747364, .full, .boxStsd), (0x61766331, .basic, .boxAvc1),
   (0x61766333, .basic, .boxAvc3), (0x68766331, .basic, .boxHvc1), (0x68657631, .basic, .boxHev1),
   (0x656E6376, .basic, .boxEncv), (0x66726D61, .basic, .boxFrma), (0x6D766864, .full, .boxMvhd),
   (0x746B6864, .full, .boxTkhd), (0x6D646864, .full, .boxMdhd), (0x74726578, .full, .boxTrex)]

/-- The media-pass registration table, 41 R161. -/
def mediaTable : List (Fourcc × BoxKind × Instr) :=
  [(0x6D6F6F66, .basic, .boxMoof), (0x74726166, .basic, .boxTraf), (0x74666864, .full, .boxTfhd),
   (0x74666474, .full, .boxTfdt), (0x7472756E, .full, .boxTrun), (0x6D646174, .basic, .boxMdat)]

/-- The decoder-only boxes of 42 R188-R189 and R200-R203, all FULL. -/
def fieldsTable : List (Fourcc × BoxKind × Instr) :=
  [(0x656D7367, .full, .boxEmsg), (0x73696478, .full, .boxSidx), (0x656C7374, .full, .boxElst),
   (0x74656E63, .full, .boxTenc), (0x70726674, .full, .boxPrft)]

/-- The registration table of a pass (41 R150). -/
def Pass.table : Pass → List (Fourcc × BoxKind × Instr)
  | .init => initTable
  | .media => mediaTable
  | .fields => fieldsTable

/-- The kind and the handler of a type, if the pass registers it. -/
def registered (p : Pass) (t : Fourcc) : Option (BoxKind × Instr) := p.table.lookup t

/-- The instruction of a box type (41 R151): its handler, the skip of 41 R154, or for emsg the layout its version picks
(42 R188, R189). -/
def boxInstr (p : Pass) (v1 : Bool) (t : Fourcc) : Instr :=
  match registered p t with
  | none => .boxUnregistered t
  | some (_, .boxEmsg) => if v1 then .boxEmsgV1 else .boxEmsg
  | some (_, i) => i

/-- A box header, 30 R101, R103. -/
def decodeBoxHeader : List Byte → Decoded
  | s0 :: s1 :: s2 :: s3 :: t0 :: t1 :: t2 :: t3 :: r =>
    let size := be32 s0 s1 s2 s3
    let type := be32 t0 t1 t2 t3
    if size = 0 then .ok (.boxSizeRest type, 8)
    else if size = 1 then
      match r with
      | l0 :: l1 :: l2 :: l3 :: l4 :: l5 :: l6 :: l7 :: _ => .ok (.boxLargesize type (be64 l0 l1 l2 l3 l4 l5 l6 l7), 16)
      | _ => .error (.truncated 8 8)
    else .ok (.boxSizeLiteral size type, 8)
  | _ :: _ :: _ :: _ :: _ => .error (.truncated 4 4)
  | _ => .error (.truncated 0 4)

/-- The version and flags word, 30 R102. -/
def decodeVf : List Byte → Decoded
  | v :: f0 :: f1 :: f2 :: _ => .ok (.boxFullVf v (f0 ++ f1 ++ f2), 4)
  | _ => .error (.truncated 0 4)

/-- The type of a box. -/
def decodeBoxType (p : Pass) (v1 : Bool) : List Byte → Decoded
  | a :: b :: c :: d :: _ => .ok (boxInstr p v1 (be32 a b c d), 4)
  | _ => .error (.truncated 0 4)

/-! ## NAL units and SEI messages (30 R105-R108) -/

/-- The number of header bytes H of 43 R239. -/
def Codec.headerLen : Codec → Nat
  | .h264 => 1
  | .h265 => 2

/-- The NAL type and class from the first header byte (43 R239). -/
def nalInstr (c : Codec) (len : Word) (h : Byte) : Instr :=
  match c with
  | .h264 => if h.extractLsb' 0 5 = 6#5 then .nalH264Sei len (h.extractLsb' 5 3) else .nalH264Other len h
  | .h265 =>
    if h.extractLsb' 1 6 = 0x27#6 then .nalH265SeiPre len (h.extractLsb' 7 1) (h.extractLsb' 0 1)
    else if h.extractLsb' 1 6 = 0x28#6 then .nalH265SeiSuf len (h.extractLsb' 7 1) (h.extractLsb' 0 1)
    else .nalH265Other len h

/-- A NAL unit's length word and first header byte; a NAL shorter than its header is `nalShort` (43 R240). -/
def decodeNal (c : Codec) : List Byte → Decoded
  | l0 :: l1 :: l2 :: l3 :: r =>
    let len := be32 l0 l1 l2 l3
    if len.toNat < c.headerLen then .ok (.nalShort len, 4)
    else match r with
      | h :: _ => .ok (nalInstr c len h, 5)
      | [] => .error (.truncated 4 1)
  | _ => .error (.truncated 0 4)

/-- The accumulated value of 30 R107 (255 for each leading 0xFF, then the final byte) and what follows it. -/
def ffSum : List Byte → Option (Nat × List Byte)
  | [] => none
  | b :: r => if b = 0xFF#8 then (ffSum r).map fun (t, r') => (255 + t, r') else some (b.toNat, r)

/-- An SEI message header: type, then size (43 R246). -/
def decodeSei (bs : List Byte) : Decoded :=
  match ffSum bs with
  | none => .error (.truncated bs.length 1)
  | some (t, r) =>
    match ffSum r with
    | none => .error (.truncated bs.length 1)
    | some (n, r') => .ok (if t = 4 then .seiT35 n else .seiOther t n, bs.length - r'.length)

/-- The four checks of 43 R247 on the 8 header bytes. -/
def t35HeaderOk (a b c d e f g h : Byte) : Bool :=
  a == 0xB5#8 && be16 b c == 0x0031#16 && [d, e, f, g] == [0x47#8, 0x41#8, 0x39#8, 0x34#8] && h == 0x03#8

/-- A T.35 payload, 43 R247: at least 8 bytes, the header checks, then the flag byte with bit 6. -/
def decodeT35 (bs : List Byte) : Decoded :=
  match bs with
  | a :: b :: c :: d :: e :: f :: g :: h :: r =>
    if t35HeaderOk a b c d e f g h then
      match r with
      | [] => .error (.truncated 8 1)
      | fl :: _ =>
        if fl.getLsbD 6 then .ok (.t35AtscCc (fl.extractLsb' 7 1) (fl.extractLsb' 5 1) (fl.extractLsb' 0 5), 9)
        else .ok (.t35Rejected (bs.take 9), 9)
    else .ok (.t35Rejected (bs.take 9), (bs.take 9).length)
  | _ => .ok (.t35Rejected (bs.take 9), (bs.take 9).length)

/-- A cc triple, 30 R109. -/
def tripleInstr (h d1 d2 : Byte) : Instr :=
  let ign := h.extractLsb' 3 5
  if h.getLsbD 2 then
    if h.extractLsb' 0 2 = 0#2 then .cc608F0 ign d1 d2
    else if h.extractLsb' 0 2 = 1#2 then .cc608F1 ign d1 d2
    else if h.extractLsb' 0 2 = 2#2 then .ccDtvccData ign d1 d2
    else .ccDtvccStart ign d1 d2
  else .ccInvalid ign (h.extractLsb' 0 2) d1 d2

/-- A cc triple is read byte by byte (43 R248). -/
def decodeTriple : List Byte → Decoded
  | h :: d1 :: d2 :: _ => .ok (tripleInstr h d1 d2, 3)
  | bs => .error (.truncated bs.length 1)

/-! ## CEA-608 pairs (30 R110-R120) -/

/-- Odd parity: the count of 1 bits is odd (30 R110). -/
def oddParity (b : Byte) : Bool :=
  ((b.getLsbD 0 ^^ b.getLsbD 1) ^^ (b.getLsbD 2 ^^ b.getLsbD 3)) ^^
    ((b.getLsbD 4 ^^ b.getLsbD 5) ^^ (b.getLsbD 6 ^^ b.getLsbD 7))

/-- A 7-bit value with the parity bit that makes its parity odd. -/
def withParity (b : BitVec 7) : Byte := if oddParity (0#1 ++ b) then 0#1 ++ b else 1#1 ++ b

/-- Bad frame, 30 R111. -/
def badPair (c1 c2 : Byte) : Bool :=
  (c1 == 0xFF#8 && c2 == 0xFF#8) || (c1 == 0x00#8 && c2 == 0x00#8) || !oddParity c1 || !oddParity c2

/-- `v = (b1 << 8) | b2` of 30 R112. -/
def pairOf (b1 b2 : BitVec 7) : Pair := 0#1 ++ b1 ++ (0#1 ++ b2)

/-- The first byte of a control pair: `001`, the channel bit, bits 2:0 (30 R112, R113). -/
def ctlByte (chan : BitVec 1) (low : BitVec 3) : BitVec 7 := 1#3 ++ chan ++ low

/-- The parity-stripped pair of a control code, as 44 R286 remembers it. -/
def controlPair (chan : BitVec 1) (low : BitVec 3) (b2 : BitVec 7) : Pair := pairOf (ctlByte chan low) b2

/-- Is the pair a control pair, `b1 & 0x70 == 0x10` (44 R286)? -/
def isControl (v : Pair) : Bool := v &&& 0x7000#16 == 0x1000#16

/-- The miscellaneous control codes by the low 4 bits of b2 (30 R120). -/
def miscInstr (code : BitVec 4) (chan ign : BitVec 1) : Instr :=
  match code.toNat with
  | 0 => .rcl608 chan ign
  | 1 => .bs608 chan ign
  | 2 => .aof608 chan ign
  | 3 => .aon608 chan ign
  | 4 => .der608 chan ign
  | 5 => .ru2608 chan ign
  | 6 => .ru3608 chan ign
  | 7 => .ru4608 chan ign
  | 8 => .fon608 chan ign
  | 9 => .rdc608 chan ign
  | 10 => .tr608 chan ign
  | 11 => .rtd608 chan ign
  | 12 => .edm608 chan ign
  | 13 => .cr608 chan ign
  | 14 => .enm608 chan ign
  | _ => .eoc608 chan ign

/-- Classes 2 to 7b of 30 R112, first match wins. -/
def controlInstr (v : Pair) : Instr :=
  let chan := v.extractLsb' 11 1
  let low := v.extractLsb' 8 3
  let b2 := v.extractLsb' 0 7
  if v &&& 0xF0C0#16 = 0x1040#16 then .pac608 chan (low ++ v.extractLsb' 5 1) (v.extractLsb' 1 4) (v.extractLsb' 0 1)
  else if v &&& 0xF7F0#16 = 0x1120#16 then .midrow608 chan (v.extractLsb' 1 3) (v.extractLsb' 0 1)
  else if v &&& 0xF7F0#16 = 0x1020#16 then .bg608 chan (v.extractLsb' 0 4)
  else if v &&& 0xF7FF#16 = 0x172D#16 then .bgBlack608 chan
  else if v &&& 0xF7F0#16 = 0x1130#16 then .special608 chan (v.extractLsb' 0 4)
  else if v &&& 0xF6E0#16 = 0x1220#16 then .extended608 chan (v.extractLsb' 8 1) (v.extractLsb' 0 5)
  else if v &&& 0xF6F0#16 = 0x1420#16 then miscInstr (v.extractLsb' 0 4) chan (v.extractLsb' 8 1)
  else .unrecognized608 chan low b2

/-- The class of a clean pair, 30 R112: null, duplicate, control classes 2 to 7b, basic characters. -/
def cleanInstr (last : Option Pair) (v : Pair) : Instr :=
  if v = 0 then .null608
  else if isControl v then
    if last = some v then .dup608 (v.extractLsb' 11 1) (v.extractLsb' 8 3) (v.extractLsb' 0 7) else controlInstr v
  else .basic608 (v.extractLsb' 8 7) (v.extractLsb' 0 7)

/-- The parity strip of 44 R283. -/
def strip (c1 c2 : Byte) : Pair := pairOf (c1.extractLsb' 0 7) (c2.extractLsb' 0 7)

/-- A raw pair: the bad-frame test precedes the classification (44 R280, 60 R476). -/
def pairInstr (last : Option Pair) (c1 c2 : Byte) : Instr :=
  if badPair c1 c2 then .bad608 c1 c2 else cleanInstr last (strip c1 c2)

/-- A raw 608 pair. -/
def decodePair (last : Option Pair) : List Byte → Decoded
  | c1 :: c2 :: _ => .ok (pairInstr last c1 c2, 2)
  | bs => .error (.truncated bs.length 1)

/-! ## DTVCC packets, service blocks and 708 codes (30 R126-R132) -/

/-- A byte of the 708 queue: the packet start byte (45 R361) or a data byte (45 R362). -/
def decodeDtvcc (start : Bool) : List Byte → Decoded
  | v :: _ => .ok (if start then .dtvccPacketStart (v.extractLsb' 6 2) (v.extractLsb' 0 6) else .dtvccData v, 1)
  | [] => .error (.truncated 0 1)

/-- A service block header, 45 R364-R366. -/
def decodeSvc : List Byte → Decoded
  | h :: r =>
    let svc := h.extractLsb' 5 3
    let size := h.extractLsb' 0 5
    if svc = 7#3 ∧ size ≠ 0#5 then
      match r with
      | e :: _ => .ok (.svcExtended size (e.extractLsb' 6 2) (e.extractLsb' 0 6), 2)
      | [] => .error (.truncated 1 1)
    else if svc = 0#3 ∨ size = 0#5 then .ok (.svcNullOrEmpty svc size, 1)
    else .ok (.svcHeader svc size, 1)
  | [] => .error (.truncated 0 1)

/-- The C1 codes with their parameter bytes, 30 R131. -/
def decodeC1 (c : Byte) (ps : List Byte) : Decoded :=
  match c.toNat, ps with
  | 0x88, p1 :: _ => .ok (.clw p1, 2)
  | 0x89, p1 :: _ => .ok (.dsw p1, 2)
  | 0x8A, p1 :: _ => .ok (.hdw p1, 2)
  | 0x8B, p1 :: _ => .ok (.tgw p1, 2)
  | 0x8C, p1 :: _ => .ok (.dlw p1, 2)
  | 0x8D, p1 :: _ => .ok (.dly p1, 2)
  | 0x8E, _ => .ok (.dlc, 1)
  | 0x8F, _ => .ok (.rst, 1)
  | 0x90, p1 :: p2 :: _ => .ok (.spa p1 p2, 3)
  | 0x91, p1 :: p2 :: p3 :: _ => .ok (.spc p1 p2 p3, 4)
  | 0x92, p1 :: p2 :: _ => .ok (.spl p1 p2, 3)
  | 0x93, _ => .ok (.c1Reserved c, 1)
  | 0x94, _ => .ok (.c1Reserved c, 1)
  | 0x95, _ => .ok (.c1Reserved c, 1)
  | 0x96, _ => .ok (.c1Reserved c, 1)
  | 0x97, p1 :: p2 :: p3 :: p4 :: _ => .ok (.swa p1 p2 p3 p4, 5)
  | _, _ =>
    if c.extractLsb' 3 5 = 0x10#5 then .ok (.cwx (c.extractLsb' 0 3), 1)
    else if c.extractLsb' 3 5 = 0x13#5 then
      match ps with
      | p1 :: p2 :: p3 :: p4 :: p5 :: p6 :: _ => .ok (.dfx (c.extractLsb' 0 3) p1 p2 p3 p4 p5 p6, 7)
      | _ => .error (.truncated 0 7)
    else .error (.truncated 0 5)

/-- The C0 codes, 30 R130, and the EXT1 code 0x10 (45 R372). -/
def c0Instr (c : Byte) : Instr :=
  match c.toNat with
  | 0x08 => .c0Bs
  | 0x0C => .c0Ff
  | 0x0D => .c0Cr
  | 0x0E => .c0Hcr
  | 0x10 => .ext1
  | _ => .c0Nop c

/-- A 708 code by its first byte, 30 R128. -/
def decodeCode : List Byte → Decoded
  | c :: ps =>
    if c.toNat < 0x20 then .ok (c0Instr c, 1)
    else if c.toNat < 0x7F then .ok (.g0 c, 1)
    else if c.toNat = 0x7F then .ok (.g0Note, 1)
    else if c.toNat < 0xA0 then decodeC1 c ps
    else .ok (.g1 c, 1)
  | [] => .error (.truncated 0 1)

/-- An extended 708 code from its 0x10 byte on, 30 R128, R132. -/
def decodeExt : List Byte → Decoded
  | _ :: x :: ps =>
    let n := x.toNat
    let lo := x.extractLsb' 0 3
    if n < 0x08 then .ok (.c2Skip0 lo, 2)
    else if n < 0x10 then
      match ps with
      | p1 :: _ => .ok (.c2Skip1 lo p1, 3)
      | _ => .error (.truncated 2 1)
    else if n < 0x18 then
      match ps with
      | p1 :: p2 :: _ => .ok (.c2Skip2 lo p1 p2, 4)
      | _ => .error (.truncated 2 2)
    else if n < 0x20 then
      match ps with
      | p1 :: p2 :: p3 :: _ => .ok (.c2Skip3 lo p1 p2 p3, 5)
      | _ => .error (.truncated 2 3)
    else if n < 0x80 then .ok (.g2 x, 2)
    else if n < 0x88 then
      match ps with
      | p1 :: p2 :: p3 :: p4 :: _ => .ok (.c3Skip4 lo p1 p2 p3 p4, 6)
      | _ => .error (.truncated 2 4)
    else if n < 0x90 then
      match ps with
      | p1 :: p2 :: p3 :: p4 :: p5 :: _ => .ok (.c3Skip5 lo p1 p2 p3 p4 p5, 7)
      | _ => .error (.truncated 2 5)
    else if n < 0xA0 then .ok (.c3Skip0 (x.extractLsb' 0 4), 2)
    else .ok (.g3 x, 2)
  | bs => .error (.truncated bs.length 1)

/-- The decoder: total on any bytes of any language. -/
def decode : Lang → List Byte → Decoded
  | .boxHeader, bs => decodeBoxHeader bs
  | .boxVf, bs => decodeVf bs
  | .boxType p v1, bs => decodeBoxType p v1 bs
  | .nal c, bs => decodeNal c bs
  | .sei, bs => decodeSei bs
  | .t35, bs => decodeT35 bs
  | .triple, bs => decodeTriple bs
  | .pair last, bs => decodePair last bs
  | .dtvcc start, bs => decodeDtvcc start bs
  | .svc, bs => decodeSvc bs
  | .code, bs => decodeCode bs
  | .codeExt, bs => decodeExt bs

/-! ## The encoder -/

/-- The accumulated form of a type or size, 30 R107. -/
def ffBytes (t : Nat) : List Byte := List.replicate (t / 255) 0xFF#8 ++ [BitVec.ofNat 8 (t % 255)]

/-- The raw bytes of a pair: odd parity on each byte (30 R110). -/
def pairBytes (b1 b2 : BitVec 7) : List Byte := [withParity b1, withParity b2]

/-- A control pair with odd parity. -/
def ctl (chan : BitVec 1) (low : BitVec 3) (b2 : BitVec 7) : List Byte := pairBytes (ctlByte chan low) b2

/-- The second byte of a miscellaneous control code, 0x20 to 0x2F (30 R120). -/
def miscB2 (code : BitVec 4) : BitVec 7 := 2#3 ++ code

/-- A miscellaneous control pair. -/
def misc (code : BitVec 4) (chan ign : BitVec 1) : List Byte := ctl chan (2#2 ++ ign) (miscB2 code)

/-- The second byte of a PAC, 30 R114, R115. -/
def pacB2 (rowIdx attr : BitVec 4) (ul : BitVec 1) : BitVec 7 := 1#1 ++ rowIdx.extractLsb' 0 1 ++ attr ++ ul

/-- The encoder: the bytes of an instruction in its own language. -/
def encode : Instr → List Byte
  | .boxSizeLiteral size type => wordBytes size ++ wordBytes type
  | .boxSizeRest type => wordBytes 0 ++ wordBytes type
  | .boxLargesize type large => wordBytes 1 ++ wordBytes type ++ longBytes large
  | .boxFullVf v f => [v, f.extractLsb' 16 8, f.extractLsb' 8 8, f.extractLsb' 0 8]
  | .boxUnregistered t => wordBytes t
  | .boxMoov => wordBytes 0x6D6F6F76
  | .boxTrak => wordBytes 0x7472616B
  | .boxMdia => wordBytes 0x6D646961
  | .boxMinf => wordBytes 0x6D696E66
  | .boxStbl => wordBytes 0x7374626C
  | .boxMvex => wordBytes 0x6D766578
  | .boxSinf => wordBytes 0x73696E66
  | .boxStsd => wordBytes 0x73747364
  | .boxAvc1 => wordBytes 0x61766331
  | .boxAvc3 => wordBytes 0x61766333
  | .boxHvc1 => wordBytes 0x68766331
  | .boxHev1 => wordBytes 0x68657631
  | .boxEncv => wordBytes 0x656E6376
  | .boxFrma => wordBytes 0x66726D61
  | .boxMvhd => wordBytes 0x6D766864
  | .boxTkhd => wordBytes 0x746B6864
  | .boxMdhd => wordBytes 0x6D646864
  | .boxTrex => wordBytes 0x74726578
  | .boxMoof => wordBytes 0x6D6F6F66
  | .boxTraf => wordBytes 0x74726166
  | .boxTfhd => wordBytes 0x74666864
  | .boxTfdt => wordBytes 0x74666474
  | .boxTrun => wordBytes 0x7472756E
  | .boxMdat => wordBytes 0x6D646174
  | .boxEmsg => wordBytes 0x656D7367
  | .boxSidx => wordBytes 0x73696478
  | .boxElst => wordBytes 0x656C7374
  | .boxTenc => wordBytes 0x74656E63
  | .boxPrft => wordBytes 0x70726674
  | .boxEmsgV1 => wordBytes 0x656D7367
  | .nalH264Sei len ign => wordBytes len ++ [ign ++ 6#5]
  | .nalH264Other len h => wordBytes len ++ [h]
  | .nalH265SeiPre len i7 i0 => wordBytes len ++ [i7 ++ 0x27#6 ++ i0]
  | .nalH265SeiSuf len i7 i0 => wordBytes len ++ [i7 ++ 0x28#6 ++ i0]
  | .nalH265Other len h => wordBytes len ++ [h]
  | .nalShort len => wordBytes len
  | .seiT35 n => ffBytes 4 ++ ffBytes n
  | .seiOther t n => ffBytes t ++ ffBytes n
  | .t35AtscCc i7 i5 n => [0xB5, 0x00, 0x31, 0x47, 0x41, 0x39, 0x34, 0x03, i7 ++ 1#1 ++ i5 ++ n]
  | .t35Rejected bs => bs
  | .cc608F0 ign d1 d2 => [ign ++ 4#3, d1, d2]
  | .cc608F1 ign d1 d2 => [ign ++ 5#3, d1, d2]
  | .ccDtvccData ign d1 d2 => [ign ++ 6#3, d1, d2]
  | .ccDtvccStart ign d1 d2 => [ign ++ 7#3, d1, d2]
  | .ccInvalid ign t d1 d2 => [ign ++ 0#1 ++ t, d1, d2]
  | .bad608 c1 c2 => [c1, c2]
  | .null608 => pairBytes 0 0
  | .dup608 chan low b2 => ctl chan low b2
  | .pac608 chan r a u => ctl chan (r.extractLsb' 1 3) (pacB2 r a u)
  | .midrow608 chan a u => ctl chan 1#3 (2#3 ++ a ++ u)
  | .bg608 chan l => ctl chan 0#3 (2#3 ++ l)
  | .bgBlack608 chan => ctl chan 7#3 0x2D#7
  | .special608 chan i => ctl chan 1#3 (3#3 ++ i)
  | .extended608 chan t i => ctl chan (1#2 ++ t) (1#2 ++ i)
  | .rcl608 chan ign => misc 0 chan ign
  | .bs608 chan ign => misc 1 chan ign
  | .aof608 chan ign => misc 2 chan ign
  | .aon608 chan ign => misc 3 chan ign
  | .der608 chan ign => misc 4 chan ign
  | .ru2608 chan ign => misc 5 chan ign
  | .ru3608 chan ign => misc 6 chan ign
  | .ru4608 chan ign => misc 7 chan ign
  | .fon608 chan ign => misc 8 chan ign
  | .rdc608 chan ign => misc 9 chan ign
  | .tr608 chan ign => misc 10 chan ign
  | .rtd608 chan ign => misc 11 chan ign
  | .edm608 chan ign => misc 12 chan ign
  | .cr608 chan ign => misc 13 chan ign
  | .enm608 chan ign => misc 14 chan ign
  | .eoc608 chan ign => misc 15 chan ign
  | .unrecognized608 chan low b2 => ctl chan low b2
  | .basic608 b1 b2 => pairBytes b1 b2
  | .dtvccPacketStart s c => [s ++ c]
  | .dtvccData v => [v]
  | .svcHeader svc size => [svc ++ size]
  | .svcExtended size ign svc => [7#3 ++ size, ign ++ svc]
  | .svcNullOrEmpty svc size => [svc ++ size]
  | .c0Nop c => [c]
  | .c0Bs => [0x08]
  | .c0Ff => [0x0C]
  | .c0Cr => [0x0D]
  | .c0Hcr => [0x0E]
  | .ext1 => [0x10]
  | .g0 c => [c]
  | .g0Note => [0x7F]
  | .cwx x => [0x10#5 ++ x]
  | .clw p => [0x88, p]
  | .dsw p => [0x89, p]
  | .hdw p => [0x8A, p]
  | .tgw p => [0x8B, p]
  | .dlw p => [0x8C, p]
  | .dly p => [0x8D, p]
  | .dlc => [0x8E]
  | .rst => [0x8F]
  | .spa p1 p2 => [0x90, p1, p2]
  | .spc p1 p2 p3 => [0x91, p1, p2, p3]
  | .spl p1 p2 => [0x92, p1, p2]
  | .c1Reserved c => [c]
  | .swa p1 p2 p3 p4 => [0x97, p1, p2, p3, p4]
  | .dfx x p1 p2 p3 p4 p5 p6 => [0x13#5 ++ x, p1, p2, p3, p4, p5, p6]
  | .g1 c => [c]
  | .c2Skip0 x => [0x10, 0#5 ++ x]
  | .c2Skip1 x p1 => [0x10, 1#5 ++ x, p1]
  | .c2Skip2 x p1 p2 => [0x10, 2#5 ++ x, p1, p2]
  | .c2Skip3 x p1 p2 p3 => [0x10, 3#5 ++ x, p1, p2, p3]
  | .g2 x => [0x10, x]
  | .c3Skip4 x p1 p2 p3 p4 => [0x10, 0x10#5 ++ x, p1, p2, p3, p4]
  | .c3Skip5 x p1 p2 p3 p4 p5 => [0x10, 0x11#5 ++ x, p1, p2, p3, p4, p5]
  | .c3Skip0 x => [0x10, 9#4 ++ x]
  | .g3 x => [0x10, x]

/-- The language an instruction belongs to. A duplicate is one only after the same pair; an unregistered type is read in a
pass that does not register it. -/
def langOf : Instr → Lang
  | .boxSizeLiteral .. | .boxSizeRest .. | .boxLargesize .. => .boxHeader
  | .boxFullVf .. => .boxVf
  | .boxUnregistered t => .boxType (if (registered .media t).isSome then .init else .media) false
  | .boxMoov | .boxTrak | .boxMdia | .boxMinf | .boxStbl | .boxMvex | .boxSinf | .boxStsd | .boxAvc1 | .boxAvc3
  | .boxHvc1 | .boxHev1 | .boxEncv | .boxFrma | .boxMvhd | .boxTkhd | .boxMdhd | .boxTrex => .boxType .init false
  | .boxMoof | .boxTraf | .boxTfhd | .boxTfdt | .boxTrun | .boxMdat => .boxType .media false
  | .boxEmsg | .boxSidx | .boxElst | .boxTenc | .boxPrft => .boxType .fields false
  | .boxEmsgV1 => .boxType .fields true
  | .nalH264Sei .. | .nalH264Other .. => .nal .h264
  | .nalShort len => .nal (if len = 0 then .h264 else .h265)
  | .nalH265SeiPre .. | .nalH265SeiSuf .. | .nalH265Other .. => .nal .h265
  | .seiT35 .. | .seiOther .. => .sei
  | .t35AtscCc .. | .t35Rejected .. => .t35
  | .cc608F0 .. | .cc608F1 .. | .ccDtvccData .. | .ccDtvccStart .. | .ccInvalid .. => .triple
  | .dup608 chan low b2 => .pair (some (controlPair chan low b2))
  | .bad608 .. | .null608 | .pac608 .. | .midrow608 .. | .bg608 .. | .bgBlack608 .. | .special608 .. | .extended608 ..
  | .rcl608 .. | .bs608 .. | .aof608 .. | .aon608 .. | .der608 .. | .ru2608 .. | .ru3608 .. | .ru4608 .. | .fon608 ..
  | .rdc608 .. | .tr608 .. | .rtd608 .. | .edm608 .. | .cr608 .. | .enm608 .. | .eoc608 .. | .unrecognized608 ..
  | .basic608 .. => .pair none
  | .dtvccPacketStart .. => .dtvcc true
  | .dtvccData .. => .dtvcc false
  | .svcHeader .. | .svcExtended .. | .svcNullOrEmpty .. => .svc
  | .c0Nop .. | .c0Bs | .c0Ff | .c0Cr | .c0Hcr | .ext1 | .g0 .. | .g0Note | .cwx .. | .clw .. | .dsw .. | .hdw ..
  | .tgw .. | .dlw .. | .dly .. | .dlc | .rst | .spa .. | .spc .. | .spl .. | .c1Reserved .. | .swa .. | .dfx ..
  | .g1 .. => .code
  | .c2Skip0 .. | .c2Skip1 .. | .c2Skip2 .. | .c2Skip3 .. | .g2 .. | .c3Skip4 .. | .c3Skip5 .. | .c3Skip0 ..
  | .g3 .. => .codeExt

/-! ## The words of the opcode table

A row of spec/opcode_table.json gives the bits of one language's unit without saying which language; log entry 3 states the
convention below. -/

/-- The language in which a table word is read (log entry 3). 32 bits or more are box words. 16 bits are a 608 pair, unless
the high byte is 0x10 and the word is not itself the match value of a 608 row. 24 bits are a cc triple. 8 bits are the match
value of a cc triple or NAL row, or else a 708 code. -/
def tableLang (nbits w : Nat) : Option Lang :=
  if nbits = 32 then
    let t : Fourcc := BitVec.ofNat 32 w
    if (registered .init t).isSome then some (.boxType .init false)
    else if (registered .media t).isSome then some (.boxType .media false)
    else if (registered .fields t).isSome then some (.boxType .fields false)
    else some .boxHeader
  else if nbits = 64 ∨ nbits = 96 ∨ nbits = 128 then some .boxHeader
  else if nbits = 16 then
    if w = 0x1000 then some (.pair (some 0x1000#16))
    else if w / 256 = 0x10 ∧ w ≠ 0x1020 ∧ w ≠ 0x1040 then some .codeExt
    else some (.pair none)
  else if nbits = 24 then some .triple
  else if nbits = 8 then
    if w = 0x00 ∨ w = 0x04 ∨ w = 0x05 ∨ w = 0x07 then some .triple
    else if w = 0x06 then some (.nal .h264)
    else if w = 0x4E ∨ w = 0x50 then some (.nal .h265)
    else some .code
  else none

/-- The `k`-th 32-bit word of a table word, bit 0 of the first word being bit 0 of `w`. -/
def tableWord32 (w k : Nat) : Word := BitVec.ofNat 32 (w / 2 ^ (32 * k))

/-- The bytes of a table word in its language, followed by zeros (operands the table gives no bits are zero). A NAL row gives
the first header byte; its 4-byte length is the header's length (log entry 3). -/
def tableBytes (nbits w : Nat) : List Byte :=
  let b (k : Nat) : Byte := BitVec.ofNat 8 (w / 2 ^ (8 * k))
  let zeros : List Byte := List.replicate 96 0
  match tableLang nbits w with
  | some (.nal c) => wordBytes (BitVec.ofNat 32 c.headerLen) ++ [b 0] ++ zeros
  | some (.pair _) => pairBytes (BitVec.ofNat 7 (w / 256)) (BitVec.ofNat 7 w)
  | some .codeExt => b 1 :: b 0 :: zeros
  | some .boxHeader =>
    wordBytes (tableWord32 w 0) ++ wordBytes (tableWord32 w 1) ++ wordBytes (tableWord32 w 2) ++ wordBytes (tableWord32 w 3) ++
      zeros
  | some (.boxType _ _) => wordBytes (tableWord32 w 0)
  | _ => b 0 :: b 1 :: b 2 :: zeros

/-- The instruction the decoder reads from a table word. -/
def decodeTableWord (nbits w : Nat) : Option Instr :=
  match tableLang nbits w with
  | none => none
  | some l =>
    match decode l (tableBytes nbits w) with
    | .ok (i, _) => some i
    | .error _ => none

end Sys2Proof
end

