-- ==== Sys2Proof/Machine/Types.lean ====
section
/-! DEFINITION. The plain data of the block's parts: byte spaces (20_memory.md R70), caption cells, memories and windows
(10_state.md R29-R36), parsed boxes (42), cues and status events (46 R441, 60 R471). -/

namespace Sys2Proof.Machine

/-- A read-only byte space (20_memory.md R70): its size, and the cells that differ from 0x00 in rising address order. Every
byte below `size` exists; a byte that is not listed is 0x00 (log entry 8). -/
structure Memory where
  size : Nat
  cells : List Host.Cell
  deriving DecidableEq, Repr

/-- The byte spaces of 20_memory.md R70. -/
inductive Space where
  | init | media | nalbuf | t35 | pkt
  deriving DecidableEq, Repr

/-! ## CEA-608 (10_state.md R27-R30) -/

/-- The 608 colours; black only as a background (R30). -/
inductive Colour608 where
  | white | green | blue | cyan | red | yellow | magenta | black
  deriving DecidableEq, Repr

/-- Pen style of a 608 memory (R30). -/
structure Style608 where
  ul : Bool
  it : Bool
  fg : Colour608
  bg : Colour608
  deriving DecidableEq, Repr

/-- A styled character of a 608 row (R30). -/
structure Cell608 where
  glyph : Str
  style : Style608
  deriving DecidableEq, Repr

/-- One memory buffer of a 608 channel (R29). -/
structure Mem608 where
  rows : Vector (List Cell608) 16
  row : Fin 16
  scroll : Nat
  style : Style608
  deriving DecidableEq, Repr

/-- The caption type of a 608 channel (R28). -/
inductive Mode608 where
  | none | popOn | paintOn | rollUp | text
  deriving DecidableEq, Repr

/-- The three buffers of a channel (R28). -/
inductive Buf608 where
  | disp | nond | text
  deriving DecidableEq, Repr

/-- A 608 channel (R28); `disp`, `nond` and `text` are `mem[DISP]`, `mem[NOND]`, `mem[TEXT]`. -/
structure Chan608 where
  mode : Mode608
  disp : Mem608
  nond : Mem608
  text : Mem608
  cur : Buf608
  prevEndTime : Rat
  lastCP : Option Pair
  deriving DecidableEq, Repr

/-- The 608 decoder (R27); channel `k = 2·field + channel` is CC(k+1). -/
structure Dec608 where
  badFrames : Nat
  curChan : Vector (BitVec 1) 2
  chan : Vector Chan608 4
  deriving DecidableEq, Repr

/-! ## CEA-708 (10_state.md R31-R36) -/

/-- An index into the 8-colour palette (R31). -/
abbrev Colour708 := BitVec 3

/-- A styled character of a window (R31). -/
structure Cell708 where
  glyph : Str
  ul : Bool
  it : Bool
  fg : Colour708
  bg : Colour708
  deriving DecidableEq, Repr

/-- A window's pen (R36). -/
structure Pen where
  row : Nat
  col : Nat
  it : Bool
  ul : Bool
  fg : Colour708
  bg : Colour708
  deriving DecidableEq, Repr

/-- A row of a window memory: W708_COLS optional cells (R35, 00_scope.md R8). -/
abbrev WinRow := List (Option Cell708)

/-- A window memory: W708_ROWS rows (R35, 00_scope.md R8). -/
abbrev WinMem := List WinRow

/-- A 708 window (R35). -/
structure Window where
  visible : Bool
  relToggle : Bool
  vAnchor : BitVec 7
  hAnchor : BitVec 8
  anchorId : BitVec 4
  rowCount : Nat
  colCount : Nat
  justify : BitVec 2
  mem : WinMem
  pen : Pen
  start : Rat
  deriving DecidableEq, Repr

/-- A 708 service (R34). -/
structure Service where
  win : Vector (Option Window) 8
  current : Option (BitVec 3)
  deriving DecidableEq, Repr

/-- The DTVCC packet being assembled (R33). -/
structure Builder where
  isOpen : Bool
  remaining : Nat
  bytes : List (Byte × Rat)
  deriving DecidableEq, Repr

/-- The 708 decoder (R32); services in rising number order. -/
structure Dec708 where
  builder : Builder
  svc : List (BitVec 6 × Service)
  deriving DecidableEq, Repr

/-! ## Parsed boxes (42_box_fields.md) -/

/-- The codec of the caption track (10_state.md R24). -/
inductive Bitstream where
  | none | h264 | h265 | unknown
  deriving DecidableEq, Repr

/-- trex defaults of a track (42 R191). -/
structure TrexDefaults where
  dur : Word
  size : Word
  deriving DecidableEq, Repr

/-- tfhd (42 R185). -/
structure Tfhd where
  trackId : Word
  baseDataOffset : Option Nat
  sampleDescriptionIndex : Option Word
  defaultSampleDuration : Option Word
  defaultSampleSize : Option Word
  defaultSampleFlags : Option Word
  deriving DecidableEq, Repr

/-- One sample of a trun (42 R186): duration, size, composition time offset, each optional. -/
structure TrunSample where
  dur : Option Word
  size : Option Word
  cto : Option Int
  deriving DecidableEq, Repr

/-- trun (42 R186). -/
structure Trun where
  sampleCount : Nat
  dataOffset : Option Int
  samples : List TrunSample
  deriving DecidableEq, Repr

/-- The resolved attributes of a sample (42 R195). -/
structure Sample where
  size : Nat
  dur : Nat
  cto : Int
  deriving DecidableEq, Repr

/-- emsg, either version (42 R188, R189): `presentation` is presentation_time_delta in version 0, the 64-bit field in 1. -/
structure Emsg where
  schemeIdUri : Str
  value : Str
  timescale : Word
  presentation : Nat
  eventDuration : Word
  id : Word
  messageData : List Byte
  deriving DecidableEq, Repr

/-- One reference of a sidx (42 R200). -/
structure SidxRef where
  referenceType : BitVec 1
  referencedSize : BitVec 31
  subsegmentDuration : Word
  startsWithSap : BitVec 1
  sapType : BitVec 3
  sapDeltaTime : BitVec 28
  deriving DecidableEq, Repr

/-- sidx (42 R200). -/
structure Sidx where
  referenceId : Word
  timescale : Word
  earliestPresentationTime : Nat
  firstOffset : Nat
  references : List SidxRef
  deriving DecidableEq, Repr

/-- One entry of an elst (42 R201). -/
structure ElstEntry where
  segmentDuration : Nat
  mediaTime : Int
  mediaRateInteger : Int
  mediaRateFraction : Int
  deriving DecidableEq, Repr

/-- tenc (42 R202); the crypt and skip counts are absent in version 0. -/
structure Tenc where
  cryptByteBlock : Option (BitVec 4)
  skipByteBlock : Option (BitVec 4)
  isProtected : Byte
  perSampleIvSize : Byte
  kid : List Byte
  constantIv : Option (List Byte)
  deriving DecidableEq, Repr

/-- prft (42 R203). -/
structure Prft where
  referenceTrackId : Word
  ntpSeconds : Word
  ntpFraction : Word
  mediaTime : Nat
  deriving DecidableEq, Repr

/-- What a decoder-only box returns (42 R204, log entry 18). -/
inductive FieldRecord where
  | emsg (e : Emsg)
  | sidx (x : Sidx)
  | elst (es : List ElstEntry)
  | tenc (t : Tenc)
  | prft (p : Prft)
  deriving DecidableEq, Repr

/-! ## Cues (46 R441) and the other outputs -/

/-- The stream label of a cue: `CC(k+1)` or `SERVICE<n>` (46 R441). -/
inductive Stream where
  | cc (k : BitVec 2)
  | service (n : BitVec 6)
  deriving DecidableEq, Repr

/-- A colour of a run, of either decoder. -/
inductive Colour where
  | c608 (c : Colour608)
  | c708 (c : Colour708)
  deriving DecidableEq, Repr

/-- The four style attributes that 46 R444 compares. -/
structure Style where
  ul : Bool
  it : Bool
  fg : Colour
  bg : Colour
  deriving DecidableEq, Repr

/-- A styled glyph as the cue assembler sees it (46 R443). -/
structure GCell where
  glyph : Str
  style : Style
  deriving DecidableEq, Repr

/-- A text run of a cue (46 R441). -/
structure Run where
  text : Str
  style : Style
  deriving DecidableEq, Repr

/-- Region alignment (46 R453). -/
inductive Align where
  | left | right | center
  deriving DecidableEq, Repr

/-- The region of a 708 cue (46 R441, R451-R453). -/
structure Region where
  viewportAnchor : Rat × Rat
  regionAnchor : Rat × Rat
  width : Rat
  height : Rat
  align : Align
  scroll : Option Str
  deriving DecidableEq, Repr

/-- A cue (46 R441). -/
structure Cue where
  id : Str
  stream : Stream
  begin_ : Rat
  end_ : Rat
  position : Option Rat
  texts : List Run
  rawText : Str
  region : Option Region
  deriving DecidableEq, Repr

/-- A timing record, in milliseconds (42 R194). -/
structure TimingRecord where
  decodeTime : Rat
  duration : Rat
  deriving DecidableEq, Repr

/-- Why a read failed (60 R471). -/
inductive BoundsReason where
  | pastEnd | guard64
  deriving DecidableEq, Repr

/-- What a StructuralError misses (60 R471): the tfhd of a fragment, or the timescale of its track. -/
inductive Missing where
  | tfhd | timescale
  deriving DecidableEq, Repr

/-- What a BoundsError records (60 R471). -/
structure ReadError where
  space : Space
  pos : Nat
  n : Nat
  reason : BoundsReason
  deriving DecidableEq, Repr

/-- A status event with its info (60 R471); a StructuralError for a missing tfhd has no track ID (43 R236). -/
inductive Event where
  | boundsError (e : ReadError)
  | structuralError (what : Missing) (trackId : Option Word)
  | contractViolation (precondition : Str)
  | unknownBitstream (entry : Option Fourcc)
  | extractionDisabled
  | duplicateSegment (segmentId : Str)
  | textModeUnsupported (channel : BitVec 2)
  | badFrameReset
  | dtvccPacketDropped (received expected : Nat)
  | dtvccOverrun (service : BitVec 6) (index : Nat)
  deriving DecidableEq, Repr

/-- A host transaction (00_scope.md R12). -/
inductive Transaction where
  | submit (init media : List Byte) (segmentId periodId : Str)
  | clear
  deriving DecidableEq, Repr

/-- The result of a finished transaction (00_scope.md R12): its outputs, and whether it ended abnormally (60 R473). -/
structure TxResult where
  cues : List Cue
  timing : List TimingRecord
  events : List Event
  abnormal : Bool
  deriving DecidableEq, Repr

end Sys2Proof.Machine
end

