-- ==== Sys2Proof/Config.lean ====
section
/-! DEFINITION. The parameters of spec/00_scope.md R8 and the configuration of R9. Those to which the spec gives a default are
fields of `Params`, which State holds and no step writes (log entry 5); those without one are opaque (log entry 6). -/

namespace Sys2Proof

open Sys2Proof.Machine

/-- The scheme of the instance (00_scope.md R9). -/
inductive Scheme where
  | cea608 | cea708
  deriving DecidableEq, Repr

/-- TIME_UNIT (00_scope.md R8, D3). -/
inductive TimeUnit where
  | seconds | milliseconds
  deriving DecidableEq, Repr

/-- The 9 anchor points of 46 R451. -/
inductive AnchorPoint where
  | ul | uc | ur | ml | mc | mr | ll | lc | lr
  deriving DecidableEq, Repr

/-- Configuration and parameters of one instance (00_scope.md R8, R9). -/
structure Params where
  scheme : Scheme
  safe64Guard : Bool
  timeUnit : TimeUnit
  rowCapacity608 : Option Nat
  w708Rows : Nat
  w708Cols : Nat
  basicRemap : List (Nat × Str)
  specialNA : Vector Str 16
  extSpFr : Vector Str 32
  extPtDe : Vector Str 32
  g2Table : List (Nat × Str)
  g3Table : List (Nat × Str)
  anchorFallback : AnchorPoint
  wsSet : List Nat
  deriving DecidableEq, Repr

/-- BASIC_NA_REMAP, 30 R121: the 11 entries the spec lists. -/
def Config.basicRemap : List (Nat × Str) :=
  [(0x27, ['\u2019']), (0x2A, ['á']), (0x5C, ['é']), (0x5E, ['í']), (0x5F, ['ó']), (0x60, ['ú']), (0x7B, ['ç']),
   (0x7C, ['÷']), (0x7D, ['Ñ']), (0x7E, ['ñ']), (0x7F, ['\u2588'])]

/-- SPECIAL_NA, 30 R122. -/
def Config.specialNA : Vector Str 16 :=
  #v[['®'], ['°'], ['½'], ['¿'], ['™'], ['¢'], ['£'], ['\u266A'], ['à'], [' '], ['è'], ['â'], ['ê'], ['î'], ['ô'], ['û']]

/-- EXT_SPFR, 30 R123. -/
def Config.extSpFr : Vector Str 32 :=
  #v[['Á'], ['É'], ['Ó'], ['Ú'], ['Ü'], ['ü'], ['\u2018'], ['¡'], ['*'], ['\''], ['\u2014'], ['©'], ['\u2120'], ['\u2022'],
     ['\u201C'], ['\u201D'], ['À'], ['Â'], ['Ç'], ['È'], ['Ê'], ['Ë'], ['ë'], ['Î'], ['Ï'], ['ï'], ['Ô'], ['Ù'], ['ù'], ['Û'],
     ['\u00AB'], ['\u00BB']]

/-- EXT_PTDE, 30 R124 (entries 9 and 10 are the opening and the closing brace). -/
def Config.extPtDe : Vector Str 32 :=
  #v[['Ã'], ['ã'], ['Í'], ['Ì'], ['ì'], ['Ò'], ['ò'], ['Õ'], ['õ'], ['\x7B'], ['\x7D'], ['\\'], ['^'], ['_'], ['|'], ['~'],
     ['Ä'], ['ä'], ['Ö'], ['ö'], ['ß'], ['¥'], ['¤'], ['¦'], ['Å'], ['å'], ['Ø'], ['ø'], ['\u250C'], ['\u2510'], ['\u2514'],
     ['\u2518']]

/-- G2_TABLE, 30 R133. -/
def Config.g2Table : List (Nat × Str) :=
  [(0x20, [' ']), (0x21, ['\u00A0']), (0x25, ['\u2026']), (0x2A, ['Š']), (0x2C, ['Œ']), (0x30, ['\u2588']),
   (0x31, ['\u2018']), (0x32, ['\u2019']), (0x33, ['\u201C']), (0x34, ['\u201D']), (0x35, ['\u2022']), (0x39, ['™']),
   (0x3A, ['š']), (0x3C, ['œ']), (0x3D, ['\u2120']), (0x3F, ['Ÿ']), (0x76, ['\u215B']), (0x77, ['\u215C']),
   (0x78, ['\u215D']), (0x79, ['\u215E']), (0x7A, ['\u2502']), (0x7B, ['\u2510']), (0x7C, ['\u2514']), (0x7D, ['\u2500']),
   (0x7E, ['\u2518']), (0x7F, ['\u250C'])]

/-- G3_TABLE, 30 R133. -/
def Config.g3Table : List (Nat × Str) := [(0xA0, ['[', 'C', 'C', ']'])]

/-- WS_SET, D55. -/
def Config.wsSet : List Nat :=
  [0x09, 0x0A, 0x0B, 0x0C, 0x0D, 0x20, 0xA0, 0x1680, 0x2000, 0x2001, 0x2002, 0x2003, 0x2004, 0x2005, 0x2006, 0x2007, 0x2008,
   0x2009, 0x200A, 0x2028, 0x2029, 0x202F, 0x205F, 0x3000, 0xFEFF]

/-- The defaults of 00_scope.md R8. R9 gives the scheme no default: DESIGN CHOICE CEA608 (log entry 5). -/
def Params.default : Params :=
  { scheme := .cea608, safe64Guard := true, timeUnit := .seconds, rowCapacity608 := none, w708Rows := 16, w708Cols := 64,
    basicRemap := Config.basicRemap, specialNA := Config.specialNA, extSpFr := Config.extSpFr, extPtDe := Config.extPtDe, g2Table := Config.g2Table,
    g3Table := Config.g3Table, anchorFallback := .ul, wsSet := Config.wsSet }

/-- CUE_ID(stream, begin, end, text), D53: no default (log entry 6). -/
opaque Config.cueId : Str → Rat → Rat → Str → Str

/-- ROW_TO_LINE_PCT(row), D54: no default (log entry 6). -/
opaque Config.rowToLinePct : Nat → Rat

/-- LINE_HEIGHT_MULT, D52: no default (log entry 6). -/
opaque Config.lineHeightMult : Rat

/-- LINE_WIDTH_MULT, D52: no default (log entry 6). -/
opaque Config.lineWidthMult : Rat

/-- VIEWPORT_ANCHOR(window), D52: no default (log entry 6). -/
opaque Config.viewportAnchor : Window → Rat × Rat

end Sys2Proof
end

