-- ==== Sys2Proof/Machine/State.lean ====
section
/-! DEFINITION. The machine's state as plain data (spec/10_state.md), the reasons a step could stop, and the state after reset
(70 R500, R503). -/

namespace Sys2Proof.Machine

/-! ## Why a step could stop -/

/-- No input of the block traps (30 R135) and every error the spec describes is a status event that ends the transaction
(60 R472, R473), which the model takes as a next state. So there is no fault: the type has no constructor. -/
inductive Fault where
  deriving DecidableEq, Repr

/-- Refusals of the model. -/
inductive Refusal where
  /-- An instruction without a meaning, rejected by name in `exec`'s arm. Every arm has its meaning, so nobody raises it. Safe. -/
  | notModelled (mnemonic : String)
  deriving DecidableEq, Repr

/-! ## The block's own state (10_state.md R20-R36) -/

/-- The init context (10_state.md R24). The maps are kept in rising key order. -/
structure InitCtx where
  parsed : Option Memory
  timescale : List (Word × Word)
  movieTimescale : Option Word
  trex : List (Word × TrexDefaults)
  bitstream : Bitstream
  deriving DecidableEq, Repr

/-- Segment dedup (10_state.md R25); `seen` has no repeats. -/
structure DedupCtx where
  period : Option Str
  seen : List Str
  deriving DecidableEq, Repr

/-! ## Transient state of one SUBMIT (10_state.md R37) -/

/-- The stage at whose cursor the next instruction is decoded (log entry 1). -/
inductive Phase where
  /-- no transaction in progress -/
  | idle
  /-- the box walk: a header is next at the top reader's cursor, or the level ends -/
  | boxHeader
  /-- a header has been read: its version/flags word or its type is next -/
  | boxDispatch
  /-- the NAL walk -/
  | nal
  /-- the SEI message loop -/
  | sei
  /-- a T.35 payload -/
  | t35
  /-- the cc triples -/
  | cc
  /-- the 608 queue -/
  | dec608
  /-- the 708 byte queue -/
  | dec708
  /-- a completed DTVCC packet: a service block header is next -/
  | svc
  /-- inside a service block: a code is next -/
  | cmd
  deriving DecidableEq, Repr

/-- A reader of the box walk: cursor and end in the pass's space (10 R22), how many boxes are still to be parsed where a count
bounds the walk (41 R158), and the pairing slot and encv slot that enclose it (42 R184, 41 R162). -/
structure Frame where
  pos : Nat
  stop : Nat
  count : Option Nat
  trak : Option Nat
  encv : Option Nat
  deriving DecidableEq, Repr

/-- The context of the box being parsed (41 R150, R153): `base`, `pos` and `stop` are its sub-reader. -/
structure BoxCtx where
  start : Nat
  size : Nat
  type : Fourcc
  base : Nat
  pos : Nat
  stop : Nat
  version : Option Byte
  flags : Option (BitVec 24)
  deriving DecidableEq, Repr

/-- Accumulators of the init pass (41 R159). -/
structure InitAcc where
  firstEntry : Option Fourcc
  codec : Option Codec
  pairs : List (Option Word × Option Word)
  encvs : List Bool
  movieTimescale : Option Word
  trex : List (Word × TrexDefaults)
  deriving DecidableEq, Repr

/-- Slots of the media pass (43 R235); `timed`, the model's own, is whether the moof has its timing record (42 R194, log entry
11). -/
structure Slots where
  moofStart : Option Nat
  tfhd : Option Tfhd
  tfdt : Option Nat
  truns : List Trun
  timed : Bool
  deriving DecidableEq, Repr

/-- mdatPayloadStart and mdatPayloadLength (42 R193). -/
structure MdatRange where
  start : Nat
  length : Nat
  deriving DecidableEq, Repr

/-- The NAL walk (43 R238): cursor and end in MEDIA, the samples not yet crossed, time, used bytes, timescale. -/
structure NalWalk where
  pos : Nat
  stop : Nat
  rest : List Sample
  time : Nat
  used : Nat
  ts : Nat
  deriving DecidableEq, Repr

/-- The SEI message loop and the cc_data unpacker (43 R245-R248). -/
structure SeiRegs where
  nalbuf : Memory
  pos : Nat
  pts : Rat
  t35 : Memory
  t35Pos : Nat
  triples : Nat
  deriving DecidableEq, Repr

/-- A queued 608 pair (10 R37). -/
structure Pkt608 where
  pts : Rat
  field : BitVec 1
  b1 : Byte
  b2 : Byte
  order : Nat
  deriving DecidableEq, Repr

/-- A queued 708 byte (10 R37). -/
structure Byte708 where
  pts : Rat
  start : Bool
  value : Byte
  order : Nat
  deriving DecidableEq, Repr

/-- What is being fed to the decoders: the pts and field of the pair or command (44 R280, 45 R370), the PKT space and its index
(45 R364), the block's service and end, and the index of an EXT1 code whose extended code is next (log entry 17). -/
structure Feed where
  pts : Rat
  field : BitVec 1
  pkt : List (Byte × Rat)
  pos : Nat
  svc : BitVec 6
  blockEnd : Nat
  ext : Option Nat
  deriving DecidableEq, Repr

/-- `S.init` and `S.disabled` as a SUBMIT found them after its period CLEAR: what its failure leaves (60 R472, R473; log entry
10). -/
structure Found where
  init : InitCtx
  disabled : Bool
  deriving DecidableEq, Repr

/-- Everything that lives only inside one SUBMIT (10 R37): `packets` are the completed DTVCC packets, `found` is the model's own
field. -/
structure Tx where
  initSpace : Memory
  mediaSpace : Memory
  segId : Str
  perId : Str
  pass : Pass
  frames : List Frame
  box : BoxCtx
  acc : InitAcc
  slots : Slots
  mdat : MdatRange
  walk : NalWalk
  sei : SeiRegs
  order : Nat
  q608 : List Pkt608
  q708 : List Byte708
  feed : Feed
  packets : List (List (Byte × Rat))
  found : Found
  cues : List Cue
  timing : List TimingRecord
  events : List Event
  deriving DecidableEq, Repr

/-! ## The state -/

/-- The state of one block instance: its configuration (`cfg`), the record S of 10_state.md R20 (`init` to `d708`), the
transient state of the SUBMIT in progress (`phase`, `tx`), and the model's own host interface (`fieldOut`, `inbox`,
`outbox`). -/
structure State where
  cfg : Params
  init : InitCtx
  dedup : DedupCtx
  disabled : Bool
  d608 : Dec608
  d708 : Dec708
  phase : Phase
  tx : Tx
  fieldOut : List FieldRecord
  inbox : List Transaction
  outbox : List TxResult
  deriving DecidableEq, Repr

/-! ## Reset values (70 R503) -/

/-- A space with no bytes. -/
def Memory.empty : Memory := { size := 0, cells := [] }

/-- The reset style of a 608 memory (R29). -/
def Style608.reset : Style608 := { ul := false, it := false, fg := .white, bg := .black }

/-- The reset 608 memory (R29): all rows empty, row 15, scroll 0. -/
def Mem608.reset : Mem608 := { rows := Vector.replicate 16 [], row := 15, scroll := 0, style := .reset }

/-- The reset 608 channel (R28). -/
def Chan608.reset : Chan608 :=
  { mode := .none, disp := .reset, nond := .reset, text := .reset, cur := .disp, prevEndTime := 0, lastCP := none }

/-- The reset 608 decoder (R27). -/
def Dec608.reset : Dec608 :=
  { badFrames := 0, curChan := Vector.replicate 2 0, chan := Vector.replicate 4 .reset }

/-- The reset builder (R33). -/
def Builder.reset : Builder := { isOpen := false, remaining := 0, bytes := [] }

/-- The reset 708 decoder (R32). -/
def Dec708.reset : Dec708 := { builder := .reset, svc := [] }

/-- A new service (R34). -/
def Service.reset : Service := { win := Vector.replicate 8 none, current := none }

/-- The reset pen (R36). -/
def Pen.reset : Pen := { row := 0, col := 0, it := false, ul := false, fg := 7, bg := 0 }

/-- An empty window memory (R35), W708_ROWS rows of W708_COLS cells (00_scope.md R8). -/
def WinMem.empty (cfg : Params) : WinMem := List.replicate cfg.w708Rows (List.replicate cfg.w708Cols none)

/-- The reset init context (R24). -/
def InitCtx.reset : InitCtx := { parsed := none, timescale := [], movieTimescale := none, trex := [], bitstream := .none }

/-- The reset dedup context (R25). -/
def DedupCtx.reset : DedupCtx := { period := none, seen := [] }

/-- Empty init-pass accumulators (41 R159). -/
def InitAcc.empty : InitAcc :=
  { firstEntry := none, codec := none, pairs := [], encvs := [], movieTimescale := none, trex := [] }

/-- Empty media-pass slots (43 R235). -/
def Slots.empty : Slots := { moofStart := none, tfhd := none, tfdt := none, truns := [], timed := false }

/-- A zero box context (log entry 7). -/
def BoxCtx.empty : BoxCtx :=
  { start := 0, size := 0, type := 0, base := 0, pos := 0, stop := 0, version := none, flags := none }

/-- No NAL walk (log entry 7). -/
def NalWalk.empty : NalWalk := { pos := 0, stop := 0, rest := [], time := 0, used := 0, ts := 0 }

/-- No SEI NAL (log entry 7). -/
def SeiRegs.empty : SeiRegs := { nalbuf := .empty, pos := 0, pts := 0, t35 := .empty, t35Pos := 0, triples := 0 }

/-- Nothing fed (log entry 7). -/
def Feed.empty : Feed := { pts := 0, field := 0, pkt := [], pos := 0, svc := 0, blockEnd := 0, ext := none }

/-- Nothing found (log entry 7). -/
def Found.empty : Found := { init := .reset, disabled := false }

/-- No SUBMIT in progress (log entry 7). -/
def Tx.empty : Tx :=
  { initSpace := .empty, mediaSpace := .empty, segId := [], perId := [], pass := .init, frames := [], box := .empty,
    acc := .empty, slots := .empty, mdat := { start := 0, length := 0 }, walk := .empty, sei := .empty, order := 0,
    q608 := [], q708 := [], feed := .empty, packets := [], found := .empty, cues := [], timing := [], events := [] }

/-- The state after construction (70 R500, R503; 10_state.md R43), waiting for its first transaction. -/
def State.reset : State :=
  { cfg := .default, init := .reset, dedup := .reset, disabled := false, d608 := .reset, d708 := .reset, phase := .idle,
    tx := .empty, fieldOut := [], inbox := [], outbox := [] }

/-! ## Named updates of single fields -/

/-- Write the active stage. -/
def State.setPhase (s : State) (p : Phase) : State := { s with phase := p }
/-- Write the transient state. -/
def State.setTx (s : State) (t : Tx) : State := { s with tx := t }
/-- Write the init context. -/
def State.setInit (s : State) (x : InitCtx) : State := { s with init := x }
/-- Write the dedup context. -/
def State.setDedup (s : State) (x : DedupCtx) : State := { s with dedup := x }
/-- Write the disable flag. -/
def State.setDisabled (s : State) (b : Bool) : State := { s with disabled := b }
/-- Write the 608 decoder. -/
def State.setD608 (s : State) (d : Dec608) : State := { s with d608 := d }
/-- Write the 708 decoder. -/
def State.setD708 (s : State) (d : Dec708) : State := { s with d708 := d }
/-- Write the decoder-only results. -/
def State.setFieldOut (s : State) (r : List FieldRecord) : State := { s with fieldOut := r }
/-- Write the pending transactions. -/
def State.setInbox (s : State) (l : List Transaction) : State := { s with inbox := l }
/-- Write the finished results. -/
def State.setOutbox (s : State) (l : List TxResult) : State := { s with outbox := l }

end Sys2Proof.Machine
end

