-- ==== Sys2Proof/Machine/Memory.lean ====
section
/-! DEFINITION. Byte spaces (20_memory.md R70, R71) and the finite maps and sets of 10_state.md R24, R25, R32. -/

namespace Sys2Proof.Machine

/-- The cells of a run of bytes from address `a` on: the bytes that differ from 0x00 (log entry 8). -/
def Memory.cellsFrom : Nat → List Byte → List Host.Cell
  | _, [] => []
  | a, b :: r => if b = 0#8 then Memory.cellsFrom (a + 1) r else (a, b) :: Memory.cellsFrom (a + 1) r

/-- The space that holds the given bytes from address 0 on. It is the only way a space comes to hold bytes: no rule writes one
(20_memory.md R70, R83). -/
def Memory.ofBytes (bs : List Byte) : Memory := { size := bs.length, cells := Memory.cellsFrom 0 bs }

/-- What an unlisted address of a space holds: 0x00 below the size, nothing at or past it (20_memory.md R71). -/
def Memory.unlisted (m : Memory) (a : Nat) : Option Byte := if a < m.size then some 0#8 else none

/-- The byte at an offset; none where the offset does not exist (20_memory.md R71). -/
def Memory.byte? (m : Memory) (a : Nat) : Option Byte :=
  match m.cells.lookup a with
  | some b => if a < m.size then some b else none
  | none => m.unlisted a

/-- The `n` bytes from an offset on, in address order (20_memory.md R72), as far as the space goes. -/
def Memory.slice (m : Memory) (pos : Nat) : Nat → List Byte
  | 0 => []
  | n + 1 =>
    match m.byte? pos with
    | some b => b :: m.slice (pos + 1) n
    | none => []

/-- Cells with addresses rising from `lo` on, below `size`, none holding the unlisted value. -/
def Memory.cellsWf (size : Nat) : Nat → List Host.Cell → Bool
  | _, [] => true
  | lo, (a, b) :: r => decide (lo ≤ a) && decide (a < size) && b != 0#8 && Memory.cellsWf size (a + 1) r

/-- The canonical form: addresses strictly rising and in the space, no cell equal to what an unlisted address holds. -/
def Memory.wf (m : Memory) : Bool := Memory.cellsWf m.size 0 m.cells

/-- Write a key of a map kept in rising key order. -/
def mapPut {n : Nat} {α : Type} (k : BitVec n) (v : α) : List (BitVec n × α) → List (BitVec n × α)
  | [] => [(k, v)]
  | (k', v') :: r =>
    if k = k' then (k, v) :: r
    else if k.toNat < k'.toNat then (k, v) :: (k', v') :: r
    else (k', v') :: mapPut k v r

/-- Read a key of a map. -/
def mapGet {n : Nat} {α : Type} (k : BitVec n) (m : List (BitVec n × α)) : Option α := m.lookup k

/-- Add an element to a set kept without repeats (10_state.md R25). -/
def setAdd {α : Type} [DecidableEq α] (x : α) (l : List α) : List α := if x ∈ l then l else l ++ [x]

/-- Insert into a list sorted by `le`, before the first element that `x` does not follow. -/
def insertBy {α : Type} (le : α → α → Bool) (x : α) : List α → List α
  | [] => [x]
  | y :: r => if le x y then x :: y :: r else y :: insertBy le x r

/-- Stable sort by `le` (43 R252). -/
def sortBy {α : Type} (le : α → α → Bool) : List α → List α
  | [] => []
  | x :: r => insertBy le x (sortBy le r)

end Sys2Proof.Machine
end

