-- ==== Sys2Proof/Machine/Reader.lean ====
section
/-! DEFINITION. The bounded byte reader (20_memory.md R72-R80). A reader program answers a value and the advanced reader, or the
BoundsError of the first read that fails. -/

namespace Sys2Proof.Machine

/-- A reader (10_state.md R22): a space, the cursor and the end of its range, and its endianness, fixed when it is built
(20_memory.md R73). -/
structure Reader where
  space : Space
  mem : Memory
  pos : Nat
  stop : Nat
  little : Bool
  deriving DecidableEq, Repr

/-- A program of reads. -/
abbrev Rd (α : Type) := StateT Reader (Except ReadError) α

/-- `MemRead(R, n)`, 20_memory.md R72: a read past the end fails and leaves the cursor unchanged. -/
def memRead (n : Nat) : Rd (List Byte) := fun r =>
  if r.pos + n > r.stop then .error { space := r.space, pos := r.pos, n := n, reason := .pastEnd }
  else .ok (r.mem.slice r.pos n, { r with pos := r.pos + n })

/-- The value of bytes, most significant first (20_memory.md R73). -/
def bigValue (bs : List Byte) : Nat := bs.foldl (fun v b => 256 * v + b.toNat) 0

/-- The value of bytes, least significant first (20_memory.md R73). -/
def littleValue (bs : List Byte) : Nat := bigValue bs.reverse

/-- The value of bytes in the reader's byte order. -/
def valueOf (little : Bool) (bs : List Byte) : Nat := if little then littleValue bs else bigValue bs

/-- `readUintN` for N = 8·n (20_memory.md R73). -/
def readUint (n : Nat) : Rd Nat := fun r =>
  match memRead n r with
  | .error e => .error e
  | .ok (bs, r') => .ok (valueOf r.little bs, r')

/-- `readUint8`. -/
def readU8 : Rd Byte := do return BitVec.ofNat 8 (← readUint 1)

/-- `readUint16`. -/
def readU16 : Rd (BitVec 16) := do return BitVec.ofNat 16 (← readUint 2)

/-- `readUint32`. -/
def readU32 : Rd Word := do return BitVec.ofNat 32 (← readUint 4)

/-- `readUint64` with the guard of 20_memory.md R75: after the end-of-range check, a high word above 0x1FFFFF fails with the
cursor unchanged. -/
def readU64 (guard : Bool) : Rd Nat := fun r =>
  match readUint 8 r with
  | .error e => .error e
  | .ok (v, r') =>
    if guard && decide (v / 2 ^ 32 > 0x1FFFFF) then .error { space := r.space, pos := r.pos, n := 8, reason := .guard64 }
    else .ok (v, r')

/-- `sext_N(v)`, 20_memory.md R74. -/
def signExtend (bits v : Nat) : Int := (BitVec.ofNat bits v).toInt

/-- `readInt8`, 20_memory.md R74; no decoder of this block asks for it. -/
def readI8 : Rd Int := do return signExtend 8 (← readUint 1)

/-- `readInt16`. -/
def readI16 : Rd Int := do return signExtend 16 (← readUint 2)

/-- `readInt32`. -/
def readI32 : Rd Int := do return signExtend 32 (← readUint 4)

/-- `readInt64`: the guard applies to the high word as an unsigned number (20_memory.md R75). -/
def readI64 (guard : Bool) : Rd Int := do return signExtend 64 (← readU64 guard)

/-- `readBytes(R, n)`, 20_memory.md R77. -/
def readBytes (n : Nat) : Rd (List Byte) := memRead n

/-- `skip(R, n)`, 20_memory.md R78. -/
def skip (n : Nat) : Rd Unit := fun r =>
  if r.pos + n > r.stop then .error { space := r.space, pos := r.pos, n := n, reason := .pastEnd }
  else .ok ((), { r with pos := r.pos + n })

/-- The bytes from the cursor to the end of the range. -/
def Reader.left (r : Reader) : List Byte := r.mem.slice r.pos (r.stop - r.pos)

/-- Repeat a read `n` times. -/
def readTimes {α : Type} : Nat → Rd α → Rd (List α)
  | 0, _ => return []
  | n + 1, p => do
    let x ← p
    let xs ← readTimes n p
    return x :: xs

/-- An optional field, read when its flag is set (42: "never defaulted silently"). -/
def readIf {α : Type} (c : Bool) (p : Rd α) : Rd (Option α) := if c then do return some (← p) else return none

/-! ## Strings (20_memory.md R79, R80) -/

/-- A UTF-8 continuation byte. -/
def utf8Tail (b : Byte) : Bool := b.extractLsb' 6 2 == 2#2

/-- Well-formed UTF-8 as code points; none where a sequence is ill-formed (log entry 23). -/
def utf8Chars : List Byte → Option Str
  | [] => some []
  | a :: r =>
    let n := a.toNat
    if n < 0x80 then (utf8Chars r).map (Char.ofNat n :: ·)
    else match r with
      | [] => none
      | b :: r2 =>
        if 0xC2 ≤ n ∧ n ≤ 0xDF then
          if utf8Tail b then (utf8Chars r2).map (Char.ofNat ((n % 32) * 64 + b.toNat % 64) :: ·) else none
        else match r2 with
          | [] => none
          | c :: r3 =>
            if 0xE0 ≤ n ∧ n ≤ 0xEF then
              if utf8Tail b && utf8Tail c && !(n == 0xE0 && decide (b.toNat < 0xA0)) && !(n == 0xED && decide (b.toNat > 0x9F)) then
                (utf8Chars r3).map (Char.ofNat ((n % 16) * 4096 + (b.toNat % 64) * 64 + c.toNat % 64) :: ·)
              else none
            else match r3 with
              | [] => none
              | d :: r4 =>
                if 0xF0 ≤ n ∧ n ≤ 0xF4 then
                  if utf8Tail b && utf8Tail c && utf8Tail d && !(n == 0xF0 && decide (b.toNat < 0x90)) &&
                      !(n == 0xF4 && decide (b.toNat > 0x8F)) then
                    (utf8Chars r4).map
                      (Char.ofNat ((n % 8) * 262144 + (b.toNat % 64) * 4096 + (c.toNat % 64) * 64 + d.toNat % 64) :: ·)
                  else none
                else none

/-- `Utf8Decode`, 20_memory.md R80: empty whenever decoding meets U+FFFD. -/
def utf8Decode (bs : List Byte) : Str :=
  match utf8Chars bs with
  | some cs => if cs.contains '\uFFFD' then [] else cs
  | none => []

/-- `readTerminatedString`, 20_memory.md R79: up to the NUL, which is passed, or to the end of the range. -/
def readTerminatedString : Rd Str := fun r =>
  let bs := r.left.takeWhile (· != 0#8)
  let i := r.pos + bs.length
  .ok (utf8Decode bs, { r with pos := if i < r.stop then i + 1 else max r.pos r.stop })

end Sys2Proof.Machine
end

