-- ==== Sys2Proof/Machine/Fields.lean ====
section
/-! DEFINITION. The box field decoders as reader programs (42_box_fields.md R180-R204): each answers the struct of its box. -/

namespace Sys2Proof.Machine

/-- The version-1 layout is used for version 1 only (42 R180). -/
def isV1 (b : BoxCtx) : Bool := b.version == some 1#8

/-- trun's own test: version 0 (42 R186). -/
def isV0 (b : BoxCtx) : Bool := b.version.getD 0#8 == 0#8

/-- Is a flag bit of a full box set? -/
def flagSet (b : BoxCtx) (mask : BitVec 24) : Bool := (b.flags.getD 0#24) &&& mask != 0#24

/-- The skipped creation and modification times of tkhd, mvhd and mdhd, then a 32-bit field (42 R181-R183). -/
def readAfterTimes (b : BoxCtx) : Rd Word := do
  skip (if isV1 b then 16 else 8)
  readU32

/-- frma, 42 R190. -/
def readFrma : Rd Fourcc := readU32

/-- The characters of a fourcc (42 R190): each byte one character. -/
def fourccStr (f : Fourcc) : Str := (wordBytes f).map fun b => Char.ofNat b.toNat

/-- trex, 42 R191: track ID, and its default duration and size. -/
def readTrex : Rd (Word × TrexDefaults) := do
  let trackId ← readU32
  let _ ← readU32
  let dur ← readU32
  let size ← readU32
  let _ ← readU32
  return (trackId, { dur := dur, size := size })

/-- tfhd, 42 R185. -/
def readTfhd (guard : Bool) (b : BoxCtx) : Rd Tfhd := do
  let trackId ← readU32
  let bdo ← readIf (flagSet b 0x000001) (readU64 guard)
  let sdi ← readIf (flagSet b 0x000002) readU32
  let dur ← readIf (flagSet b 0x000008) readU32
  let size ← readIf (flagSet b 0x000010) readU32
  let flags ← readIf (flagSet b 0x000020) readU32
  return { trackId := trackId, baseDataOffset := bdo, sampleDescriptionIndex := sdi, defaultSampleDuration := dur,
           defaultSampleSize := size, defaultSampleFlags := flags }

/-- A composition time offset: unsigned for version 0, else signed (42 R186). -/
def readCto (b : BoxCtx) : Rd Int := if isV0 b then do return ((← readU32).toNat : Int) else readI32

/-- One sample of a trun, 42 R186. -/
def readTrunSample (b : BoxCtx) : Rd TrunSample := do
  let dur ← readIf (flagSet b 0x000100) readU32
  let size ← readIf (flagSet b 0x000200) readU32
  if flagSet b 0x000400 then skip 4
  let cto ← readIf (flagSet b 0x000800) (readCto b)
  return { dur := dur, size := size, cto := cto }

/-- trun, 42 R186. -/
def readTrun (b : BoxCtx) : Rd Trun := do
  let n ← readU32
  let off ← readIf (flagSet b 0x000001) readI32
  if flagSet b 0x000004 then skip 4
  let samples ← readTimes n.toNat (readTrunSample b)
  return { sampleCount := n.toNat, dataOffset := off, samples := samples }

/-- tfdt, 42 R187. -/
def readTfdt (guard : Bool) (b : BoxCtx) : Rd Nat :=
  if isV1 b then readU64 guard else do return (← readU32).toNat

/-- The bytes that remain in the box (42 R188). -/
def readRest : Rd (List Byte) := do
  let r ← get
  readBytes (r.stop - r.pos)

/-- emsg version 0, 42 R188. -/
def readEmsgV0 : Rd Emsg := do
  let scheme ← readTerminatedString
  let value ← readTerminatedString
  let ts ← readU32
  let delta ← readU32
  let dur ← readU32
  let id ← readU32
  let data ← readRest
  return { schemeIdUri := scheme, value := value, timescale := ts, presentation := delta.toNat, eventDuration := dur, id := id,
           messageData := data }

/-- emsg version 1, 42 R189. -/
def readEmsgV1 (guard : Bool) : Rd Emsg := do
  let ts ← readU32
  let time ← readU64 guard
  let dur ← readU32
  let id ← readU32
  let scheme ← readTerminatedString
  let value ← readTerminatedString
  let data ← readRest
  return { schemeIdUri := scheme, value := value, timescale := ts, presentation := time, eventDuration := dur, id := id,
           messageData := data }

/-- A field of 32 bits, or of 64 bits where `wide`. -/
def readWide (guard wide : Bool) : Rd Nat := if wide then readU64 guard else do return (← readU32).toNat

/-- One reference of a sidx, 42 R200. -/
def readSidxRef : Rd SidxRef := do
  let w ← readU32
  let dur ← readU32
  let w2 ← readU32
  return { referenceType := w.extractLsb' 31 1, referencedSize := w.extractLsb' 0 31, subsegmentDuration := dur,
           startsWithSap := w2.extractLsb' 31 1, sapType := w2.extractLsb' 28 3, sapDeltaTime := w2.extractLsb' 0 28 }

/-- sidx, 42 R200. R200 writes "u32 each if version 0, u64 each otherwise"; D75 names sidx among the boxes whose every version
other than 1 uses the version-0 layout, and 42 R180 says the same of every decoder (log entry 28). -/
def readSidx (guard : Bool) (b : BoxCtx) : Rd Sidx := do
  let refId ← readU32
  let ts ← readU32
  let ept ← readWide guard (isV1 b)
  let off ← readWide guard (isV1 b)
  let _ ← readU16
  let n ← readU16
  let refs ← readTimes n.toNat readSidxRef
  return { referenceId := refId, timescale := ts, earliestPresentationTime := ept, firstOffset := off, references := refs }

/-- One entry of an elst, 42 R201. -/
def readElstEntry (guard : Bool) (b : BoxCtx) : Rd ElstEntry := do
  let dur ← readWide guard (isV1 b)
  let time ← if isV1 b then readI64 guard else readI32
  let rate ← readI16
  let frac ← readI16
  return { segmentDuration := dur, mediaTime := time, mediaRateInteger := rate, mediaRateFraction := frac }

/-- elst, 42 R201. -/
def readElst (guard : Bool) (b : BoxCtx) : Rd (List ElstEntry) := do
  let n ← readU32
  readTimes n.toNat (readElstEntry guard b)

/-- The constant IV of a tenc, 42 R202. -/
def readConstantIv : Rd (List Byte) := do
  let n ← readU8
  readBytes n.toNat

/-- tenc, 42 R202; the crypt byte block layout is that of every version other than 0 (log entry 28). -/
def readTenc (b : BoxCtx) : Rd Tenc := do
  let _ ← readU8
  let x ← readU8
  let prot ← readU8
  let ivSize ← readU8
  let kid ← readBytes 16
  let iv ← readIf (prot == 1#8 && ivSize == 0#8) readConstantIv
  return { cryptByteBlock := if isV0 b then none else some (x.extractLsb' 4 4),
           skipByteBlock := if isV0 b then none else some (x.extractLsb' 0 4),
           isProtected := prot, perSampleIvSize := ivSize, kid := kid, constantIv := iv }

/-- prft, 42 R203. -/
def readPrft (guard : Bool) (b : BoxCtx) : Rd Prft := do
  let track ← readU32
  let secs ← readU32
  let frac ← readU32
  let time ← readWide guard (isV1 b)
  return { referenceTrackId := track, ntpSeconds := secs, ntpFraction := frac, mediaTime := time }

end Sys2Proof.Machine
end

