-- ==== Sys2Proof/Machine/Flags.lean ====
section
/-! DEFINITION. The flags and status bits of 10_state.md R39: how each is computed. -/

namespace Sys2Proof.Machine

/-- The number of consecutive bad frames that resets the 608 decoder (00 R7, 44 R281). -/
def badFrameLimit : Nat := 45

/-- `badFrames` after one more bad frame, and whether that one resets the decoder (44 R281). -/
def badFrameCount (n : Nat) : Nat × Bool := (n + 1, decide (badFrameLimit ≤ n + 1))

/-- `S.disabled` after a completed init pass (43 R234). -/
def disabledBy : Bitstream → Bool
  | .unknown => true
  | _ => false

/-- The numeric code of a status event (60 R471; decision D60). -/
def Event.code : Event → Nat
  | .boundsError _ => 1
  | .structuralError _ _ => 2
  | .contractViolation _ => 3
  | .unknownBitstream _ => 4
  | .extractionDisabled => 5
  | .duplicateSegment _ => 6
  | .textModeUnsupported _ => 7
  | .badFrameReset => 8
  | .dtvccPacketDropped _ _ => 9
  | .dtvccOverrun _ _ => 10

/-- `lastCP` after a control pair `v` (44 R286): cleared by its duplicate, else replaced. -/
def lastAfterControl (last : Option Pair) (v : Pair) : Option Pair := if last = some v then none else some v

/-- `Builder.isOpen` after a data byte that leaves `remaining` bytes to come (45 R362, R363). -/
def openAfter (remaining : Nat) : Bool := decide (remaining ≠ 0)

/-- Is the pen inside the declared window (10_state.md R36)? -/
def penInBounds (w : Window) : Bool := decide (w.pen.row < w.rowCount) && decide (w.pen.col < w.colCount)

/-- `Window.visible` and `Window.start` after a display (45 R382): the start is set only if newly visible. -/
def showWindow (pts : Rat) (w : Window) : Window := if w.visible then w else { w with visible := true, start := pts }

/-- Bit `i` of a window bitmap addresses window `i` (45, D42). -/
def targeted (bitmap : Byte) (i : Nat) : Bool := bitmap.getLsbD i

end Sys2Proof.Machine
end

