-- ==== Sys2Proof/Machine/Operands.lean ====
section
/-! DEFINITION. The operand forms: what each encoded field selects (30_encoding.md R113-R125, R133, R134; 45 R389-R394, R405;
46 R451, R453). -/

namespace Sys2Proof.Machine

/-! ## CEA-608 -/

/-- Channel index `k = 2·field + channel` (44 R284, D22). -/
def chanIndex (field chan : BitVec 1) : BitVec 2 := field ++ chan

/-- PAC_ROW, 30 R114. -/
def pacRowTable : Vector (Fin 16) 16 := #v[11, 11, 1, 2, 3, 4, 12, 13, 14, 15, 5, 6, 7, 8, 9, 10]

/-- The row a PAC selects (44 R287). -/
def pacRow (idx : BitVec 4) : Fin 16 := pacRowTable[idx.toNat]'idx.isLt

/-- P608, 30 R125, by index; the indices an encoding can form are 0 to 6. -/
def palette608 : Nat → Colour608
  | 0 => .white
  | 1 => .green
  | 2 => .blue
  | 3 => .cyan
  | 4 => .red
  | 5 => .yellow
  | _ => .magenta

/-- Text colour and italics of a PAC attribute (44 R289, D29). -/
def pacAttr (attr : BitVec 4) : Colour608 × Bool :=
  if attr.toNat ≤ 6 then (palette608 attr.toNat, false) else if attr.toNat = 7 then (.white, true) else (.white, false)

/-- The style a PAC sets (44 R289): its background is always black. -/
def pacStyle (attr : BitVec 4) (ul : BitVec 1) : Style608 :=
  { ul := ul == 1#1, it := (pacAttr attr).2, fg := (pacAttr attr).1, bg := .black }

/-- Text colour and italics of a midrow code (44 R290). -/
def midrowAttr (attr : BitVec 3) : Colour608 × Bool :=
  if attr.toNat ≤ 6 then (palette608 attr.toNat, false) else (.white, true)

/-- The style after a midrow code: the background is unchanged (44 R290). -/
def midrowStyle (attr : BitVec 3) (ul : BitVec 1) (old : Style608) : Style608 :=
  { ul := ul == 1#1, it := (midrowAttr attr).2, fg := (midrowAttr attr).1, bg := old.bg }

/-- The background colour of form 1, index `(b2 & 0x0E) >> 2` as the document writes it (44 R291, 90 C3). -/
def bgColour (low : BitVec 4) : Colour608 := palette608 ((low &&& 0xE#4) >>> 2).toNat

/-- SPECIAL_NA (44 R292). -/
def specialGlyph (cfg : Params) (idx : BitVec 4) : Str := cfg.specialNA[idx.toNat]'idx.isLt

/-- EXT_SPFR where the LSB of b1 is 0, EXT_PTDE where it is 1 (44 R293). -/
def extendedGlyph (cfg : Params) (table : BitVec 1) (idx : BitVec 5) : Str :=
  if table = 0#1 then cfg.extSpFr[idx.toNat]'idx.isLt else cfg.extPtDe[idx.toNat]'idx.isLt

/-- The glyph of a basic byte, or none below 0x20 (44 R295, 30 R121). -/
def basicGlyph (cfg : Params) (b : BitVec 7) : Option Str :=
  if b.toNat < 0x20 then none
  else some ((cfg.basicRemap.lookup b.toNat).getD [Char.ofNat b.toNat])

/-! ## CEA-708 -/

/-- The glyph of a G0 code 0x20-0x7E: the ASCII character (45 R397). -/
def g0Glyph (code : Byte) : Str := [Char.ofNat code.toNat]

/-- The musical note of G0 0x7F (45 R397). -/
def noteGlyph : Str := ['\u266A']

/-- The glyph of a G1 code: the Latin-1 character (45 R398). -/
def g1Glyph (code : Byte) : Str := [Char.ofNat code.toNat]

/-- The glyph of a G2 code; unmapped codes are an underscore (45 R399). -/
def g2Glyph (cfg : Params) (x : Byte) : Str := (cfg.g2Table.lookup x.toNat).getD ['_']

/-- The glyph of a G3 code; unmapped codes are an underscore (45 R400). -/
def g3Glyph (cfg : Params) (x : Byte) : Str := (cfg.g3Table.lookup x.toNat).getD ['_']

/-- `q(c)` of 30 R134: 0, 1 to 0 and 2, 3 to 1. -/
def quantComponent (c : BitVec 2) : BitVec 1 := if 2 ≤ c.toNat then 1#1 else 0#1

/-- The palette index of an SPC colour byte, `(q(R) << 2) | (q(G) << 1) | q(B)` (30 R134). -/
def quant (p : Byte) : Colour708 :=
  quantComponent (p.extractLsb' 4 2) ++ quantComponent (p.extractLsb' 2 2) ++ quantComponent (p.extractLsb' 0 2)

/-- The parameter layout of DFx (45 R405). -/
structure DfxFields where
  vis : Bool
  rel : Bool
  va : BitVec 7
  ha : BitVec 8
  aid : BitVec 4
  rc : Nat
  cc : Nat
  penStyle : BitVec 3
  deriving DecidableEq, Repr

/-- The fields of the six DFx parameter bytes (45 R405). -/
def dfxFields (p1 p2 p3 p4 p5 p6 : Byte) : DfxFields :=
  { vis := p1.getLsbD 5, rel := p2.getLsbD 7, va := p2.extractLsb' 0 7, ha := p3, aid := p4.extractLsb' 4 4,
    rc := (p4 &&& 0x0F#8).toNat + 1, cc := (p5 &&& 0x3F#8).toNat + 1, penStyle := p6.extractLsb' 0 3 }

/-! ## Regions (46 R451, R453) -/

/-- The anchor point of an anchor id; ids 9 to 15 take ANCHOR_FALLBACK (46 R451, D51). -/
def anchorPoint (cfg : Params) (aid : BitVec 4) : AnchorPoint :=
  match aid.toNat with
  | 0 => .ul
  | 1 => .uc
  | 2 => .ur
  | 3 => .ml
  | 4 => .mc
  | 5 => .mr
  | 6 => .ll
  | 7 => .lc
  | 8 => .lr
  | _ => cfg.anchorFallback

/-- The region anchor of an anchor point, in percent (46 R451). -/
def anchorPercent : AnchorPoint → Rat × Rat
  | .ul => (0, 0)
  | .uc => (50, 0)
  | .ur => (100, 0)
  | .ml => (0, 50)
  | .mc => (50, 50)
  | .mr => (100, 50)
  | .ll => (0, 100)
  | .lc => (50, 100)
  | .lr => (100, 100)

/-- Alignment by justification (46 R453). -/
def alignOf (justify : BitVec 2) : Align :=
  match justify.toNat with
  | 0 => .left
  | 1 => .right
  | _ => .center

end Sys2Proof.Machine
end

