-- ==== Sys2Proof/Machine/Cue.lean ====
section
/-! DEFINITION. The cue assembler (46_cue_assembler.md R442-R455). -/

namespace Sys2Proof.Machine

/-- The decimal digits of a number below 100. -/
def twoDigits (n : Nat) : Str :=
  if n < 10 then [Char.ofNat (48 + n)] else [Char.ofNat (48 + n / 10), Char.ofNat (48 + n % 10)]

/-- The text of a stream label: `CC1` to `CC4`, `SERVICE1` to `SERVICE63` (46 R441). -/
def Stream.label : Stream → Str
  | .cc k => 'C' :: 'C' :: twoDigits (k.toNat + 1)
  | .service n => ['S', 'E', 'R', 'V', 'I', 'C', 'E'] ++ twoDigits n.toNat

/-- A time in the output unit (46 R441, D3). -/
def scaleTime : TimeUnit → Rat → Rat
  | .seconds, t => t
  | .milliseconds, t => mkRat (1000 * t.num) t.den

/-- Is a code point white space (46 R442)? -/
def isWs (cfg : Params) (c : Char) : Bool := cfg.wsSet.contains c.toNat

/-- A cell is blank when it is absent or its glyph is white space only (46 R442). -/
def blankCell (cfg : Params) : Option GCell → Bool
  | none => true
  | some c => c.glyph.all (isWs cfg)

/-- A grid: rows of optional cells by column (46 R443). -/
abbrev Grid := List (List (Option GCell))

/-- Does a row hold a non-blank cell? -/
def rowFilled (cfg : Params) (row : List (Option GCell)) : Bool := row.any (!blankCell cfg ·)

/-- The first non-blank row of a grid, the `r0` of 46 R443. -/
def firstRow (cfg : Params) (g : Grid) : Option Nat := g.findIdx? (rowFilled cfg)

/-- The cells from the first to the last non-blank column (46 R444). -/
def columnSpan (cfg : Params) (row : List (Option GCell)) : List (Option GCell) :=
  ((row.dropWhile (blankCell cfg)).reverse.dropWhile (blankCell cfg)).reverse

/-- The cells of a column span; an absent cell is a space in the style of the cell before it (46 R445). A span starts with a
cell that is present, so `prev` is never asked for before it is known. -/
def fillSpan (prev : Style) : List (Option GCell) → List GCell
  | [] => []
  | some c :: r => c :: fillSpan c.style r
  | none :: r => { glyph := [' '], style := prev } :: fillSpan prev r

/-- The style a span starts in: that of its first cell. -/
def spanStyle : List (Option GCell) → Style
  | some c :: _ => c.style
  | _ => { ul := false, it := false, fg := .c608 .white, bg := .c608 .black }

/-- Runs of equal style (46 R444): `cur` is the run being built. -/
def groupRuns (cur : Run) : List GCell → List Run
  | [] => [cur]
  | c :: r =>
    if c.style = cur.style then groupRuns { cur with text := cur.text ++ c.glyph } r
    else cur :: groupRuns { text := c.glyph, style := c.style } r

/-- The runs of one row (46 R444): none where the row is blank. -/
def rowRuns (cfg : Params) (row : List (Option GCell)) : List Run :=
  let span := columnSpan cfg row
  match fillSpan (spanStyle span) span with
  | [] => []
  | c :: r => groupRuns { text := c.glyph, style := c.style } r

/-- The runs of a grid; a run never crosses a row, and rows outside the span are blank, so they add none (46 R443, R444). -/
def gridRuns (cfg : Params) (g : Grid) : List Run := g.flatMap (rowRuns cfg)

/-- Replace each maximal run of white space by one U+0020 (46 R446); `inWs` is whether the last character was one. -/
def collapseWs (cfg : Params) (inWs : Bool) : Str → Str
  | [] => []
  | c :: r => if isWs cfg c then (if inWs then collapseWs cfg true r else ' ' :: collapseWs cfg true r) else c :: collapseWs cfg false r

/-- Drop one leading and one trailing U+0020 (46 R446). -/
def trimSpace (t : Str) : Str :=
  let a := match t with
    | ' ' :: r => r
    | _ => t
  if a.getLast? = some ' ' then a.dropLast else a

/-- `rawText`, 46 R446: run texts joined by single spaces, white space collapsed and trimmed. -/
def rawTextOf (cfg : Params) (texts : List Run) : Str :=
  trimSpace (collapseWs cfg false (List.intercalate [' '] (texts.map (·.text))))

/-- The shared build (46 R443-R447) on a shell: none where no row is filled, no run has text, or `begin >= end`. -/
def buildCue (cfg : Params) (stream : Stream) (t0 t1 : Rat) (position : Nat → Option Rat) (region : Option Region)
    (g : Grid) : Option Cue :=
  match firstRow cfg g with
  | none => none
  | some r0 =>
    let texts := gridRuns cfg g
    if texts.all (fun r => r.text.isEmpty) || decide (t1 ≤ t0) then none
    else
      let raw := rawTextOf cfg texts
      let b := scaleTime cfg.timeUnit t0
      let e := scaleTime cfg.timeUnit t1
      some { id := Config.cueId stream.label b e raw, stream := stream, begin_ := b, end_ := e, position := position r0,
             texts := texts, rawText := raw, region := region }

/-- A 608 cell in the assembler's form. -/
def Cell608.toG (c : Cell608) : GCell :=
  { glyph := c.glyph, style := { ul := c.style.ul, it := c.style.it, fg := .c608 c.style.fg, bg := .c608 c.style.bg } }

/-- The grid of a 608 memory: every row is dense from column 0 (46 R449). -/
def grid608 (m : Mem608) : Grid := m.rows.toList.map (List.map fun c => some c.toG)

/-- The cue of a 608 memory (46 R448). -/
def cue608 (cfg : Params) (k : BitVec 2) (m : Mem608) (t0 t1 : Rat) : Option Cue :=
  buildCue cfg (.cc k) t0 t1 (fun r0 => some (Config.rowToLinePct r0)) none (grid608 m)

/-- A 708 cell in the assembler's form. -/
def Cell708.toG (c : Cell708) : GCell :=
  { glyph := c.glyph, style := { ul := c.ul, it := c.it, fg := .c708 c.fg, bg := .c708 c.bg } }

/-- The grid of a window: the whole memory (46 R450). -/
def grid708 (w : Window) : Grid := w.mem.map fun row => row.map (Option.map Cell708.toG)

/-- The region of a window (46 R451-R453). -/
def regionOf (cfg : Params) (w : Window) : Region :=
  { viewportAnchor := Config.viewportAnchor w, regionAnchor := anchorPercent (anchorPoint cfg w.anchorId),
    width := w.colCount * Config.lineWidthMult, height := w.rowCount * Config.lineHeightMult, align := alignOf w.justify,
    scroll := none }

/-- The cue of a window (46 R450). -/
def cue708 (cfg : Params) (n : BitVec 6) (w : Window) (t1 : Rat) : Option Cue :=
  buildCue cfg (.service n) w.start t1 (fun _ => none) (some (regionOf cfg w)) (grid708 w)

/-- `emitMem`, 44 R312: the buffer's cue, or nothing; the buffer is unchanged. -/
def emitMem (cfg : Params) (k : BitVec 2) (m : Mem608) (t0 t1 : Rat) : List Cue := (cue608 cfg k m t0 t1).toList

/-- `emitWin`, 45 R403: the window's cue, and its start time advanced to the emission's end (46 R454); where no cue arises the
window is unchanged. -/
def emitWin (cfg : Params) (n : BitVec 6) (t1 : Rat) (w : Window) : Window × List Cue :=
  match cue708 cfg n w t1 with
  | some c => ({ w with start := t1 }, [c])
  | none => (w, [])

end Sys2Proof.Machine
end

