-- ==== Sys2Proof/Machine/Ops.lean ====
section
/-! DEFINITION. The named operations the meanings share: outputs, ending a transaction, taking an error, CLEAR (60, 70), the
608 memory operations (44 R288, R296, R297, R309), the 708 window operations (45 R374-R403), and the way a meaning acts on the
routed channel, the current window, a set of windows, or the box being parsed. -/

namespace Sys2Proof.Machine

/-! ## Outputs of a transaction (00_scope.md R12) -/

/-- Append a status event (60 R470). -/
def State.logEvent (s : State) (e : Event) : State := { s with tx := { s.tx with events := s.tx.events ++ [e] } }

/-- Append status events in order. -/
def State.logEvents (s : State) (es : List Event) : State := { s with tx := { s.tx with events := s.tx.events ++ es } }

/-- Append cues in emission order (46 R440). -/
def State.emitCues (s : State) (cs : List Cue) : State := { s with tx := { s.tx with cues := s.tx.cues ++ cs } }

/-- End the transaction: its outputs become a result, the transient state is discarded (10 R37), and the block waits for the
next transaction, which starts from the state as it is left (60 R477). -/
def State.finish (s : State) (abnormal : Bool) : State :=
  { s with
    outbox := s.outbox ++ [{ cues := s.tx.cues, timing := s.tx.timing, events := s.tx.events, abnormal := abnormal }]
    phase := .idle
    tx := .empty }

/-- `S.init` and `S.disabled` are again as the SUBMIT found them (60 R472: the state after a failed SUBMIT equals the state before
it, but for the period and its CLEAR; log entry 10). -/
def State.putBack (s : State) : State := { s with init := s.tx.found.init, disabled := s.tx.found.disabled }

/-- TAKING AN EXCEPTION (60 R472, R473): the terminating event is the transaction's last one, its cues and timing records are
discarded (43 R253, R255), the state is as the SUBMIT found it, and the transaction ends, abnormally where the error is propagated
to the host. No decoder state is touched. -/
def State.takeError (s : State) (e : Event) (abnormal : Bool) : State :=
  (({ s.putBack with tx := { s.tx with cues := [], timing := [] } }).logEvent e).finish abnormal

/-- A BoundsError: segment scope, the transaction ends normally (60 R472). -/
def State.takeBounds (s : State) (e : ReadError) : State := s.takeError (.boundsError e) false

/-- A StructuralError: propagated, the transaction ends abnormally (60 R473). -/
def State.takeStructural (s : State) (e : Event) : State := s.takeError e true

/-- CLEAR (70 R501): the whole state S takes the values of 70 R500; no cue, no event. -/
def State.clear (s : State) : State :=
  { s with init := .reset, dedup := .reset, disabled := false, d608 := .reset, d708 := .reset }

/-! ## CEA-608 memories and channels -/

/-- Empty all 16 rows; row cursor, scroll size and style are unchanged (44 §4, D85). -/
def Mem608.clear (m : Mem608) : Mem608 := { m with rows := Vector.replicate 16 [] }

/-- Is there room for one more cell in a row (44 R296, D70)? -/
def rowHasRoom (cfg : Params) (row : List Cell608) : Bool :=
  match cfg.rowCapacity608 with
  | none => true
  | some n => decide (row.length < n)

/-- `append`, 44 R296: a glyph in the current style at the end of the current row. -/
def Mem608.append (cfg : Params) (m : Mem608) (g : Str) : Mem608 :=
  if rowHasRoom cfg m.rows[m.row] then
    { m with rows := m.rows.set m.row (m.rows[m.row] ++ [{ glyph := g, style := m.style }]) }
  else m

/-- `removeLast`, 44 R297: the last cell of the current row, if there is one. -/
def Mem608.removeLast (m : Mem608) : Mem608 := { m with rows := m.rows.set m.row m.rows[m.row].dropLast }

/-- The content of a row, empty for an index outside 0..15 (44 R288, D30). -/
def rowAt (rows : Vector (List Cell608) 16) (j : Int) : List Cell608 :=
  if 0 ≤ j ∧ j < 16 then rows[j.toNat]?.getD [] else []

/-- The roll-up window move of 44 R288: the `scroll` rows that end at the current row go to the rows that end at `row`, and
every row above and below the new window is blank. -/
def Mem608.moveWindow (m : Mem608) (row : Fin 16) : Mem608 :=
  let newTop : Int := row.val - m.scroll + 1
  let oldTop : Int := m.row.val - m.scroll + 1
  { m with
    rows := Vector.ofFn fun i : Fin 16 =>
      if newTop ≤ i.val ∧ i ≤ row then rowAt m.rows (i.val - newTop + oldTop) else [] }

/-- The roll-up CR of 44 R309: the window rows `top..r` go to `top-1..r-1`, every other row is blank, the cursor stays. -/
def Mem608.rollUp (m : Mem608) : Mem608 :=
  let top : Int := m.row.val - m.scroll + 1
  { m with
    rows := Vector.ofFn fun i : Fin 16 => if top - 1 ≤ i.val ∧ i.val < m.row.val then rowAt m.rows (i.val + 1) else [] }

/-- A buffer of a channel (10_state.md R28). -/
def Chan608.mem (c : Chan608) : Buf608 → Mem608
  | .disp => c.disp
  | .nond => c.nond
  | .text => c.text

/-- Write a buffer of a channel. -/
def Chan608.setMem (c : Chan608) : Buf608 → Mem608 → Chan608
  | .disp, m => { c with disp := m }
  | .nond, m => { c with nond := m }
  | .text, m => { c with text := m }

/-- Act on the current buffer (44 §1: `m = ch.mem[ch.cur]`). -/
def Chan608.onCur (c : Chan608) (f : Mem608 → Mem608) : Chan608 := c.setMem c.cur (f (c.mem c.cur))

/-- What a 608 code does to its channel: the channel after it, and what it emits and logs. -/
structure Eff608 where
  ch : Chan608
  cues : List Cue
  events : List Event
  deriving DecidableEq, Repr

/-- A code that emits and logs nothing. -/
def Eff608.quiet (ch : Chan608) : Eff608 := { ch := ch, cues := [], events := [] }

/-- Act on channel `k` of the 608 decoder. A clean pair also clears the bad-frame count (44 R280). -/
def State.onChan (s : State) (k : BitVec 2) (f : Chan608 → Eff608) : State :=
  let e := f (s.d608.chan[k.toNat]'k.isLt)
  (({ s with d608 := { s.d608 with badFrames := 0, chan := s.d608.chan.set k.toNat e.ch k.isLt } }).emitCues e.cues).logEvents e.events

/-- Route a control pair (44 R284): its channel bit becomes the field's current channel. -/
def State.routeControl (s : State) (chan : BitVec 1) : State :=
  { s with d608 := { s.d608 with curChan := s.d608.curChan.set s.tx.feed.field.toNat chan s.tx.feed.field.isLt } }

/-- The channel a non-control pair goes to: the field's current one (44 R284). -/
def State.textChan (s : State) : BitVec 2 :=
  chanIndex s.tx.feed.field (s.d608.curChan[s.tx.feed.field.toNat]'s.tx.feed.field.isLt)

/-- A control pair of classes 2 to 7b (44 R286): routed, remembered as the last control pair, then run on its channel. -/
def State.control608 (s : State) (chan : BitVec 1) (v : Pair) (f : BitVec 2 → Chan608 → Eff608) : State :=
  let k := chanIndex s.tx.feed.field chan
  (s.routeControl chan).onChan k fun c => f k { c with lastCP := some v }

/-- A miscellaneous control pair (30 R120). -/
def State.misc608 (s : State) (code : BitVec 4) (chan ign : BitVec 1) (f : BitVec 2 → Chan608 → Eff608) : State :=
  s.control608 chan (controlPair chan (2#2 ++ ign) (miscB2 code)) f

/-! ## CEA-708 windows and services -/

/-- A row of the same width with no cell. -/
def WinRow.blank (row : WinRow) : WinRow := List.replicate row.length none

/-- Write one cell of a window; a position outside the memory is discarded (log entry 37). -/
def Window.setCell (w : Window) (r c : Nat) (x : Option Cell708) : Window := { w with mem := w.mem.modify r (·.set c x) }

/-- The cell of a window, none outside the memory. -/
def Window.cell (w : Window) (r c : Nat) : Option Cell708 := ((w.mem[r]?).bind (·[c]?)).join

/-- Empty one row (45 R376). -/
def Window.clearRow (w : Window) (r : Nat) : Window := { w with mem := w.mem.modify r WinRow.blank }

/-- Empty the whole memory (45 R377, R381). -/
def Window.clearMem (w : Window) : Window := { w with mem := w.mem.map WinRow.blank }

/-- Move the pen. -/
def Window.penAt (w : Window) (row col : Nat) : Window := { w with pen := { w.pen with row := row, col := col } }

/-- `write`, 45 R401: at the pen when it is in bounds, and then one column on; else nothing. -/
def Window.write (g : Str) (w : Window) : Window :=
  if penInBounds w then
    (w.setCell w.pen.row w.pen.col
      (some { glyph := g, ul := w.pen.ul, it := w.pen.it, fg := w.pen.fg, bg := w.pen.bg })).penAt w.pen.row (w.pen.col + 1)
  else w

/-- `scrollUp`, 45 R402: rows below `rowCount` move up by one and the last of them is emptied; a row that the memory lacks moves up
as an empty one (log entry 37). -/
def Window.scrollUp (w : Window) : Window :=
  { w with
    mem := w.mem.mapIdx fun i row =>
      if i + 1 < w.rowCount then w.mem[i + 1]?.getD row.blank else if i + 1 = w.rowCount then row.blank else row }

/-- Emit the window if it is visible (45 R375-R388). -/
def emitIfVisible (cfg : Params) (n : BitVec 6) (pts : Rat) (w : Window) : Window × List Cue :=
  if w.visible then emitWin cfg n pts w else (w, [])

/-- The service of the block being run; a service not yet referenced is a new one (45 R368). -/
def State.curService (s : State) : Service := (mapGet s.tx.feed.svc s.d708.svc).getD Service.reset

/-- Write the service of the block being run. -/
def State.putService (s : State) (sv : Service) : State :=
  { s with d708 := { s.d708 with svc := mapPut s.tx.feed.svc sv s.d708.svc } }

/-- The current window of a service, with its index (45: "no current window" is none). -/
def Service.curWin (sv : Service) : Option (BitVec 3 × Window) :=
  sv.current.bind fun x => (sv.win[x.toNat]'x.isLt).map fun w => (x, w)

/-- Act on the current window; with none, change nothing (45 R373). -/
def State.onCurrent (s : State) (f : Window → Window × List Cue) : State :=
  match s.curService.curWin with
  | none => s
  | some (x, w) =>
    (s.putService { s.curService with win := s.curService.win.set x.toNat (some (f w).1) x.isLt }).emitCues (f w).2

/-- Act on each present window that `sel` selects, in rising index order (45 §5). -/
def State.onWindows (s : State) (sel : Nat → Bool) (f : Window → Option Window × List Cue) : State :=
  let sv := s.curService
  let win := Vector.ofFn fun i : Fin 8 => if sel i then sv.win[i].bind fun w => (f w).1 else sv.win[i]
  let cues := sv.win.toList.zipIdx.flatMap fun (w, i) =>
    match w with
    | some w => if sel i then (f w).2 else []
    | none => []
  (s.putService { sv with win := win }).emitCues cues

/-- Is the current window present and selected (45 R385)? -/
def Service.currentIn (sv : Service) (sel : Nat → Bool) : Bool :=
  match sv.current with
  | some x => sel x.toNat && (sv.win[x.toNat]'x.isLt).isSome
  | none => false

/-- Make the current-window pointer none where its window has been deleted (45 R385, D44). -/
def State.dropCurrent (s : State) (gone : Bool) : State :=
  if gone then s.putService { s.curService with current := none } else s

/-! ## The box being parsed -/

/-- The space a pass walks (41 R160, R161). -/
def passSpace : Pass → Space
  | .init => .init
  | .media => .media
  | .fields => .media

/-- The bytes of the space being walked. -/
def State.boxMem (s : State) : Memory :=
  match s.tx.pass with
  | .init => s.tx.initSpace
  | .media => s.tx.mediaSpace
  | .fields => s.tx.mediaSpace

/-- The sub-reader of the box (41 R153). -/
def State.boxReader (s : State) : Reader :=
  { space := passSpace s.tx.pass, mem := s.boxMem, pos := s.tx.box.pos, stop := s.tx.box.stop, little := false }

/-- Change the reader on top of the stack. -/
def onTop (f : Frame → Frame) : List Frame → List Frame
  | [] => []
  | x :: r => f x :: r

/-- The enclosing cursor goes to the box's end, whatever its handler consumes (41 R153); the walk goes on there. -/
def State.leaveBox (s : State) : State :=
  { s with phase := .boxHeader, tx := { s.tx with frames := onTop (fun f => { f with pos := s.tx.box.stop }) s.tx.frames } }

/-- Enter a level of the walk over `[pos, box end)`, inside the slots of the enclosing reader unless new ones are given. -/
def State.enterLevel (s : State) (pos : Nat) (count trak encv : Option Nat) : State :=
  let top := s.tx.frames.head?
  let f : Frame :=
    { pos := pos, stop := s.tx.box.stop, count := count, trak := trak.or (top.bind (·.trak)), encv := encv.or (top.bind (·.encv)) }
  { s with tx := { s.tx with frames := f :: s.tx.frames } }

/-- `children`, 41 R156: walk the box's own range. -/
def State.children (s : State) (trak encv : Option Nat) : State :=
  (s.leaveBox).enterLevel s.tx.box.pos none trak encv

/-- Run a field decoder on the box's sub-reader (41 R153): its struct goes to the accumulator, a failed read is a BoundsError. -/
def State.decodeBox {α : Type} (s : State) (p : Rd α) (k : α → State → State) : State :=
  match p s.boxReader with
  | .error e => s.takeBounds e
  | .ok (v, _) => k v s.leaveBox

/-- Change the init-pass accumulators. -/
def State.onAcc (s : State) (f : InitAcc → InitAcc) : State := { s with tx := { s.tx with acc := f s.tx.acc } }

/-- Change the media-pass slots. -/
def State.onSlots (s : State) (f : Slots → Slots) : State := { s with tx := { s.tx with slots := f s.tx.slots } }

end Sys2Proof.Machine
end

