-- ==== Sys2Proof/Machine/Boxes.lean ====
section
/-! DEFINITION. The box family: headers, the init-pass and media-pass boxes, and the decoder-only boxes (41_box_engine.md,
42_box_fields.md, 43 R235-R237). -/

namespace Sys2Proof.Machine

/-- What a meaning answers. -/
abbrev Out := Host.Outcome State Fault Refusal

/-! ## Box headers (41 R151-R154) -/

/-- Note the first sample entry for UNKNOWN_BITSTREAM's info (60 R471): the first box parsed as an entry of an stsd, whose walk is
the only one bounded by a count (41 R158; log entry 14). A box whose size is below its header is not noted (DESIGN CHOICE, log entry
38). -/
def noteFirstEntry (counted : Bool) (type : Fourcc) (a : InitAcc) : InitAcc :=
  if counted then { a with firstEntry := a.firstEntry.or (some type) } else a

/-- `parseNext` once the size is resolved (41 R151): a size below the header consumed ends the level (D7); else the box is
clamped to its enclosing range and dispatched. The cursor stands after the header. In an stsd a box below its header counts as an
entry (log entry 29) and is not noted as the first sample entry of UNKNOWN_BITSTREAM's info (60 R471; DESIGN CHOICE, log entry 38). -/
def State.openBox (s : State) (size : Nat) (type : Fourcc) : State :=
  match s.tx.frames with
  | [] => s
  | f :: r =>
    let start := s.tx.box.start
    let f' : Frame := { f with count := f.count.map (· - 1) }
    if size < f.pos - start then
      { s with phase := .boxHeader, tx := { s.tx with frames := { f' with pos := f.stop } :: r } }
    else
      { s with
        phase := .boxDispatch
        tx := { s.tx with
          frames := f' :: r
          acc := noteFirstEntry f.count.isSome type s.tx.acc
          box := { start := start, size := size, type := type, base := f.pos, pos := f.pos, stop := min (start + size) f.stop,
                   version := none, flags := none } } }

/-- BOX_SIZE_LITERAL, 41 R152. -/
def execBoxSizeLiteral (size : Word) (type : Fourcc) (s : State) : Out := .next (s.openBox size.toNat type)

/-- BOX_SIZE_REST, 41 R152: the rest of the enclosing range. -/
def execBoxSizeRest (type : Fourcc) (s : State) : Out :=
  .next (s.openBox (((s.tx.frames.head?.map (·.stop)).getD 0) - s.tx.box.start) type)

/-- BOX_LARGESIZE, 41 R152, under the 64-bit guard of 20_memory.md R75. -/
def execBoxLargesize (type : Fourcc) (large : BitVec 64) (s : State) : Out :=
  if s.cfg.safe64Guard && decide (large.toNat / 2 ^ 32 > 0x1FFFFF) then
    .next (s.takeBounds { space := passSpace s.tx.pass, pos := s.tx.box.start + 8, n := 8, reason := .guard64 })
  else .next (s.openBox large.toNat type)

/-- BOX_FULL_VF, 41 R153: version and flags of the box context. -/
def execBoxFullVf (version : Byte) (flags : BitVec 24) (s : State) : Out :=
  .next { s with tx := { s.tx with box := { s.tx.box with version := some version, flags := some flags } } }

/-- BOX_UNREGISTERED, 41 R154: skipped to the box's end. -/
def execBoxUnregistered (_type : Fourcc) (s : State) : Out := .next s.leaveBox

/-! ## Init-pass boxes (41 R160) -/

/-- BOX.moov: children. -/
def execBoxMoov (s : State) : Out := .next (s.children none none)

/-- BOX.trak: opens a pairing slot (42 R184), then children. -/
def execBoxTrak (s : State) : Out :=
  .next ((s.onAcc fun a => { a with pairs := a.pairs ++ [(none, none)] }).children (some s.tx.acc.pairs.length) none)

/-- BOX.mdia: children. -/
def execBoxMdia (s : State) : Out := .next (s.children none none)

/-- BOX.minf: children. -/
def execBoxMinf (s : State) : Out := .next (s.children none none)

/-- BOX.stbl: children. -/
def execBoxStbl (s : State) : Out := .next (s.children none none)

/-- BOX.mvex: children. -/
def execBoxMvex (s : State) : Out := .next (s.children none none)

/-- BOX.sinf: children. -/
def execBoxSinf (s : State) : Out := .next (s.children none none)

/-- The entry count of a stsd, and the cursor after it. -/
def readEntryCount : Rd (Nat × Nat) := do
  let n ← readU32
  let r ← get
  return (n.toNat, r.pos)

/-- BOX.stsd, 41 R158: that many boxes, no more and no fewer. -/
def execBoxStsd (s : State) : Out :=
  .next (s.decodeBox readEntryCount fun (n, pos) s => s.enterLevel pos (some n) none none)

/-- The cursor after the 78-byte codec-parameter header (41 R157). -/
def readEntryHeader : Rd Nat := do
  skip 78
  let r ← get
  return r.pos

/-- Note a visual sample entry: the first one that maps sets the codec (41 R162, D73). -/
def noteEntry (codec : Option Codec) (a : InitAcc) : InitAcc := { a with codec := a.codec.or codec }

/-- `visualSampleEntry`, 41 R157, after the note of 41 R162. -/
def State.visualEntry (s : State) (codec : Option Codec) (encv : Option Nat) : State :=
  (s.onAcc (noteEntry codec)).decodeBox readEntryHeader fun pos s => s.enterLevel pos none none encv

/-- BOX.avc1, 41 R162: H264. -/
def execBoxAvc1 (s : State) : Out := .next (s.visualEntry (some .h264) none)

/-- BOX.avc3, 41 R162: H264. -/
def execBoxAvc3 (s : State) : Out := .next (s.visualEntry (some .h264) none)

/-- BOX.hvc1, 41 R162: H265. -/
def execBoxHvc1 (s : State) : Out := .next (s.visualEntry (some .h265) none)

/-- BOX.hev1, 41 R162: H265. -/
def execBoxHev1 (s : State) : Out := .next (s.visualEntry (some .h265) none)

/-- BOX.encv, 41 R162: sets no codec itself; the first frma inside it may. -/
def execBoxEncv (s : State) : Out :=
  .next ((s.onAcc fun a => { a with encvs := a.encvs ++ [false] }).visualEntry none (some s.tx.acc.encvs.length))

/-- The codec of a fourcc (41 R162, D10). -/
def codecOf (f : Fourcc) : Option Codec :=
  if f = 0x61766331 ∨ f = 0x61766333 then some .h264
  else if f = 0x68766331 ∨ f = 0x68657631 then some .h265
  else none

/-- The first frma inside an encv maps its fourcc (41 R162); another frma changes nothing (log entry 13). -/
def noteFrma (encv : Option Nat) (f : Fourcc) (a : InitAcc) : InitAcc :=
  match encv with
  | none => a
  | some k =>
    if a.encvs[k]? = some false then { a with encvs := a.encvs.set k true, codec := a.codec.or (codecOf f) } else a

/-- BOX.frma, 42 R190, then 41 R162. -/
def execBoxFrma (s : State) : Out :=
  .next (s.decodeBox readFrma fun f s' => s'.onAcc (noteFrma (s.tx.frames.head?.bind (·.encv)) f))

/-- BOX.mvhd, 42 R182. -/
def execBoxMvhd (s : State) : Out :=
  .next (s.decodeBox (readAfterTimes s.tx.box) fun ts s => s.onAcc fun a => { a with movieTimescale := some ts })

/-- Change the pairing slot of the enclosing trak, if there is one (42 R184, log entry 12). -/
def onPair (trak : Option Nat) (f : Option Word × Option Word → Option Word × Option Word) (a : InitAcc) : InitAcc :=
  match trak with
  | none => a
  | some k => { a with pairs := a.pairs.modify k f }

/-- BOX.tkhd, 42 R181: the first one of a trak gives its track ID (42 R184). -/
def execBoxTkhd (s : State) : Out :=
  .next (s.decodeBox (readAfterTimes s.tx.box) fun id s' =>
    s'.onAcc (onPair (s.tx.frames.head?.bind (·.trak)) fun p => (p.1.or (some id), p.2)))

/-- BOX.mdhd, 42 R183: the first one of a trak gives its timescale (42 R184). -/
def execBoxMdhd (s : State) : Out :=
  .next (s.decodeBox (readAfterTimes s.tx.box) fun ts s' =>
    s'.onAcc (onPair (s.tx.frames.head?.bind (·.trak)) fun p => (p.1, p.2.or (some ts))))

/-- BOX.trex, 42 R191. -/
def execBoxTrex (s : State) : Out :=
  .next (s.decodeBox readTrex fun (id, d) s => s.onAcc fun a => { a with trex := mapPut id d a.trex })

/-! ## Media-pass boxes (41 R161, 43 R235-R237) -/

/-- BOX.moof: records its start, empties the other slots, then children (43 R235). -/
def execBoxMoof (s : State) : Out :=
  .next ((s.onSlots fun _ => { Slots.empty with moofStart := some s.tx.box.start }).children none none)

/-- BOX.traf: children. -/
def execBoxTraf (s : State) : Out := .next (s.children none none)

/-- BOX.tfhd, 42 R185: the last one of a moof is used (43 R235). -/
def execBoxTfhd (s : State) : Out :=
  .next (s.decodeBox (readTfhd s.cfg.safe64Guard s.tx.box) fun h s => s.onSlots fun x => { x with tfhd := some h })

/-- BOX.tfdt, 42 R187: the last one of a moof is used (43 R235). -/
def execBoxTfdt (s : State) : Out :=
  .next (s.decodeBox (readTfdt s.cfg.safe64Guard s.tx.box) fun t s => s.onSlots fun x => { x with tfdt := some t })

/-- BOX.trun, 42 R186: appended (43 R235). -/
def execBoxTrun (s : State) : Out :=
  .next (s.decodeBox (readTrun s.tx.box) fun t s => s.onSlots fun x => { x with truns := x.truns ++ [t] })

/-- The attributes of a sample (42 R195): trun, else tfhd default, else trex default, else 0. -/
def resolveSample (h : Tfhd) (d : Option TrexDefaults) (x : TrunSample) : Sample :=
  { size := ((x.size.or (h.defaultSampleSize.or (d.map (·.size)))).getD 0).toNat
    dur := ((x.dur.or (h.defaultSampleDuration.or (d.map (·.dur)))).getD 0).toNat
    cto := x.cto.getD 0 }

/-- A sample past the end of the sample list: the trun term is absent (42 R195). -/
def absentSample : TrunSample := { dur := none, size := none, cto := none }

/-- The `n = Σ sampleCount` samples of a fragment, resolved (43 R236, 42 R195). -/
def fragmentSamples (h : Tfhd) (d : Option TrexDefaults) (truns : List Trun) : List Sample :=
  let n := (truns.map (·.sampleCount)).sum
  let listed := (truns.flatMap (·.samples)).take n
  (listed ++ List.replicate (n - listed.length) absentSample).map (resolveSample h d)

/-- The timing record of a fragment with a tfdt (42 R194), in milliseconds. -/
def timingRecord (bmdt ts : Nat) (samples : List Sample) : TimingRecord :=
  { decodeTime := mkRat (1000 * bmdt) ts, duration := mkRat (1000 * (samples.map (·.dur)).sum) ts }

/-- Record the timing of a fragment: one record for a moof that has a tfdt, at the first mdat that forms its fragment context (42
R194, 43 R236; log entry 11). -/
def Tx.recordTiming (t : Tx) (ts : Nat) (samples : List Sample) : Tx :=
  match t.slots.tfdt with
  | none => t
  | some bmdt =>
    if t.slots.timed then t
    else { t with timing := t.timing ++ [timingRecord bmdt ts samples], slots := { t.slots with timed := true } }

/-- `dataStart`, 43 R237. -/
def dataStart (moofStart : Nat) (truns : List Trun) (mdatStart : Nat) : Int :=
  moofStart + ((truns.head?.bind (·.dataOffset)).getD 0) - mdatStart

/-- The start of the NAL walk (43 R237), or nothing to scan. -/
def State.startWalk (s : State) (moofStart bmdt ts : Nat) (samples : List Sample) : State :=
  let d := dataStart moofStart s.tx.slots.truns s.tx.mdat.start
  if samples.isEmpty ∨ d < 0 ∨ d > s.tx.mdat.length then s
  else
    { s with
      phase := .nal
      tx := { s.tx with
        walk := { pos := s.tx.mdat.start + d.toNat, stop := s.tx.mdat.start + s.tx.mdat.length, rest := samples, time := bmdt,
                  used := 0, ts := ts } } }

/-- The fragment context at an mdat (43 R236), with its StructuralErrors, timing record (42 R194) and walk. -/
def State.scanMdat (s : State) : State :=
  match s.tx.slots.moofStart with
  | none => s
  | some moof =>
    match s.tx.slots.tfhd with
    | none => s.takeStructural (.structuralError .tfhd none)
    | some h =>
      match mapGet h.trackId s.init.timescale with
      | none => s.takeStructural (.structuralError .timescale (some h.trackId))
      | some ts =>
        if ts = 0 then s.takeStructural (.structuralError .timescale (some h.trackId))
        else
          let samples := fragmentSamples h (mapGet h.trackId s.init.trex) s.tx.slots.truns
          (s.setTx (s.tx.recordTiming ts.toNat samples)).startWalk moof (s.tx.slots.tfdt.getD 0) ts.toNat samples

/-- BOX.mdat, 42 R193, then 43 R236, R237. -/
def execBoxMdat (s : State) : Out :=
  .next (({ s with
    tx := { s.tx with mdat := { start := s.tx.box.base, length := s.tx.box.stop - s.tx.box.base } } }).leaveBox.scanMdat)

/-! ## Decoder-only boxes (42 R188-R189, R200-R204; log entry 18) -/

/-- The struct of a decoder-only box is the pass's output and nothing else changes (42 R204). -/
def State.recordField (r : FieldRecord) (s : State) : State := { s with fieldOut := s.fieldOut ++ [r] }

/-- BOX.emsg, 42 R188. -/
def execBoxEmsg (s : State) : Out := .next (s.decodeBox readEmsgV0 fun e s => s.recordField (.emsg e))

/-- BOX.emsg.v1, 42 R189. -/
def execBoxEmsgV1 (s : State) : Out := .next (s.decodeBox (readEmsgV1 s.cfg.safe64Guard) fun e s => s.recordField (.emsg e))

/-- BOX.sidx, 42 R200. -/
def execBoxSidx (s : State) : Out :=
  .next (s.decodeBox (readSidx s.cfg.safe64Guard s.tx.box) fun x s => s.recordField (.sidx x))

/-- BOX.elst, 42 R201. -/
def execBoxElst (s : State) : Out :=
  .next (s.decodeBox (readElst s.cfg.safe64Guard s.tx.box) fun x s => s.recordField (.elst x))

/-- BOX.tenc, 42 R202. -/
def execBoxTenc (s : State) : Out := .next (s.decodeBox (readTenc s.tx.box) fun x s => s.recordField (.tenc x))

/-- BOX.prft, 42 R203. -/
def execBoxPrft (s : State) : Out :=
  .next (s.decodeBox (readPrft s.cfg.safe64Guard s.tx.box) fun x s => s.recordField (.prft x))

end Sys2Proof.Machine
end

