-- ==== Sys2Proof/Machine/Sei.lean ====
section
/-! DEFINITION. The NAL walk, the SEI message loop, T.35 payloads and cc triples (43_sei_extractor.md R238-R251). -/

namespace Sys2Proof.Machine

/-! ## NAL units (43 R238-R245) -/

/-- Sample advance (43 R242): every sample whose size the used bytes reach is crossed, adding its duration to the time. -/
def crossSamples : List Sample → Nat → Nat → List Sample × Nat × Nat
  | [], used, time => ([], used, time)
  | x :: r, used, time => if x.size ≤ used then crossSamples r (used - x.size) (time + x.dur) else (x :: r, used, time)

/-- Pass a NAL of the given length (43 R238): cursor, used bytes, sample advance. -/
def NalWalk.passNal (w : NalWalk) (len : Nat) : NalWalk :=
  let c := crossSamples w.rest (w.used + 4 + len) w.time
  { w with pos := w.pos + 4 + len, rest := c.1, used := c.2.1, time := c.2.2 }

/-- The pts of the current sample (43 R243). A negative one is kept, as R243 says, although 10_state.md R28, R35 and D3 call every
timestamp non-negative: DEDUCED, log entry 36. -/
def NalWalk.pts (w : NalWalk) : Rat := mkRat (w.time + (w.rest.head?.map (·.cto)).getD 0) w.ts

/-- `EPBRemove`, 43 R244: a 0x03 after two or more zero bytes is dropped; `z` counts the zeros since the last removal. -/
def epbRemove (z : Nat) : List Byte → List Byte
  | [] => []
  | b :: r =>
    if 2 ≤ z ∧ b = 0x03#8 then epbRemove 0 r
    else b :: epbRemove (if b = 0x00#8 then z + 1 else 0) r

/-- A NAL that is not SEI is skipped by its length (43 R241). -/
def State.skipNal (s : State) (len : Word) : State := { s with tx := { s.tx with walk := s.tx.walk.passNal len.toNat } }

/-- `seiNal`, 43 R245: NALBUF is the de-escaped payload after the header bytes; the message loop runs over it, and the walk goes
on after the NAL. -/
def State.seiNal (s : State) (c : Codec) (len : Word) : State :=
  let w := s.tx.walk
  let payload := s.tx.mediaSpace.slice (w.pos + 4 + c.headerLen) (len.toNat - c.headerLen)
  { s with
    phase := .sei
    tx := { s.tx with
      walk := w.passNal len.toNat
      sei := { s.tx.sei with nalbuf := Memory.ofBytes (epbRemove 0 payload), pos := 0, pts := w.pts } } }

/-- NAL.H264.SEI, 43 R239. -/
def execNalH264Sei (len : Word) (_ign : BitVec 3) (s : State) : Out := .next (s.seiNal .h264 len)

/-- NAL.H264.other, 43 R241. -/
def execNalH264Other (len : Word) (_header : Byte) (s : State) : Out := .next (s.skipNal len)

/-- NAL.H265.SEI_PREFIX, 43 R239. -/
def execNalH265SeiPre (len : Word) (_ign7 _ign0 : BitVec 1) (s : State) : Out := .next (s.seiNal .h265 len)

/-- NAL.H265.SEI_SUFFIX, 43 R239. -/
def execNalH265SeiSuf (len : Word) (_ign7 _ign0 : BitVec 1) (s : State) : Out := .next (s.seiNal .h265 len)

/-- NAL.H265.other, 43 R241. -/
def execNalH265Other (len : Word) (_header : Byte) (s : State) : Out := .next (s.skipNal len)

/-- NAL.SHORT, 43 R240: non-SEI. -/
def execNalShort (len : Word) (s : State) : Out := .next (s.skipNal len)

/-! ## SEI messages (43 R246) -/

/-- `k = min(s, bytes left)`: the clamped payload size (43 R246, D17). -/
def State.seiClamp (s : State) (size : Nat) : Nat := min size (s.tx.sei.nalbuf.size - s.tx.sei.pos)

/-- SEI.T35, 43 R246: the clamped payload is a caption payload candidate. -/
def execSeiT35 (size : Nat) (s : State) : Out :=
  let k := s.seiClamp size
  .next { s with
    phase := .t35
    tx := { s.tx with
      sei := { s.tx.sei with
        t35 := Memory.ofBytes (s.tx.sei.nalbuf.slice s.tx.sei.pos k), t35Pos := 0, pos := s.tx.sei.pos + k } } }

/-- SEI.other, 43 R246: skipped by its size. -/
def execSeiOther (_type size : Nat) (s : State) : Out :=
  .next { s with tx := { s.tx with sei := { s.tx.sei with pos := s.tx.sei.pos + s.seiClamp size } } }

/-! ## T.35 payloads (43 R247) -/

/-- T35.ATSC_CC, 43 R247: the reserved byte is skipped, then `cc_count` triples follow. -/
def execT35AtscCc (_ign7 _ign5 : BitVec 1) (count : BitVec 5) (s : State) : Out :=
  if s.tx.sei.t35Pos + 1 > s.tx.sei.t35.size then
    .next (s.takeBounds { space := .t35, pos := s.tx.sei.t35Pos, n := 1, reason := .pastEnd })
  else
    .next { s with
      phase := .cc
      tx := { s.tx with sei := { s.tx.sei with t35Pos := s.tx.sei.t35Pos + 1, triples := count.toNat } } }

/-- T35.rejected, 43 R247: the whole payload is ignored. -/
def execT35Rejected (_bytes : List Byte) (s : State) : Out := .next { s with phase := .sei }

/-! ## cc triples (43 R248-R251) -/

/-- Queue a 608 pair (43 R250) under scheme CEA608; discard it under CEA708 (43 R249). -/
def State.queue608 (s : State) (field : BitVec 1) (d1 d2 : Byte) : State :=
  match s.cfg.scheme with
  | .cea608 =>
    { s with
      tx := { s.tx with
        q608 := s.tx.q608 ++ [{ pts := s.tx.sei.pts, field := field, b1 := d1, b2 := d2, order := s.tx.order }]
        order := s.tx.order + 1 } }
  | .cea708 => s

/-- Queue two 708 bytes (43 R251) under scheme CEA708, only the first of which can carry the packet start; discard them under
CEA608 (43 R249). -/
def State.queue708 (s : State) (start : Bool) (d1 d2 : Byte) : State :=
  match s.cfg.scheme with
  | .cea608 => s
  | .cea708 =>
    { s with
      tx := { s.tx with
        q708 := s.tx.q708 ++
          [{ pts := s.tx.sei.pts, start := start, value := d1, order := s.tx.order },
           { pts := s.tx.sei.pts, start := false, value := d2, order := s.tx.order + 1 }]
        order := s.tx.order + 2 } }

/-- CC.608.F0, 43 R250. -/
def execCc608F0 (_ign : BitVec 5) (d1 d2 : Byte) (s : State) : Out := .next (s.queue608 0 d1 d2)

/-- CC.608.F1, 43 R250. -/
def execCc608F1 (_ign : BitVec 5) (d1 d2 : Byte) (s : State) : Out := .next (s.queue608 1 d1 d2)

/-- CC.DTVCC_DATA, 43 R251. -/
def execCcDtvccData (_ign : BitVec 5) (d1 d2 : Byte) (s : State) : Out := .next (s.queue708 false d1 d2)

/-- CC.DTVCC_START, 43 R251. -/
def execCcDtvccStart (_ign : BitVec 5) (d1 d2 : Byte) (s : State) : Out := .next (s.queue708 true d1 d2)

/-- CC.INVALID, 43 R249: consumed and discarded. -/
def execCcInvalid (_ign : BitVec 5) (_type : BitVec 2) (_d1 _d2 : Byte) (s : State) : Out := .next s

end Sys2Proof.Machine
end

