-- ==== Sys2Proof/Machine/Cea608.lean ====
section
/-! DEFINITION. The CEA-608 family (44_cea608.md R280-R314): one meaning for each pair class and miscellaneous code. A meaning
acts on the channel the pair is routed to, at the pts of the pair being fed. -/

namespace Sys2Proof.Machine

/-! ## Bad frames, null pair, duplicates (44 R281-R286) -/

/-- 608.BAD_FRAME, 44 R281, R282: counted; the 45th in a row resets the 608 decoder and is logged. -/
def execBad608 (_c1 _c2 : Byte) (s : State) : Out :=
  let n := badFrameCount s.d608.badFrames
  if n.2 then .next (({ s with d608 := Dec608.reset }).logEvent .badFrameReset)
  else .next { s with d608 := { s.d608 with badFrames := n.1 } }

/-- 608.NULL, 44 R283: nothing but the bad-frame count. -/
def execNull608 (s : State) : Out := .next { s with d608 := { s.d608 with badFrames := 0 } }

/-- 608.DUPLICATE, 44 R286: suppressed; the last control pair is forgotten. -/
def execDup608 (chan : BitVec 1) (_low : BitVec 3) (_b2 : BitVec 7) (s : State) : Out :=
  .next ((s.routeControl chan).onChan (chanIndex s.tx.feed.field chan) fun c => .quiet { c with lastCP := none })

/-! ## Preamble address codes and attributes (44 R287-R291) -/

/-- What a PAC does to a channel (44 R287-R289): in RollUp a change of row moves the window first. -/
def pacEffect (row : Fin 16) (style : Style608) (c : Chan608) : Chan608 :=
  c.onCur fun m =>
    let m' := if c.mode = .rollUp ∧ row ≠ m.row then m.moveWindow row else m
    { m' with row := row, style := style }

/-- 608.PAC, 44 R287. -/
def execPac608 (chan : BitVec 1) (rowIdx attr : BitVec 4) (ul : BitVec 1) (s : State) : Out :=
  .next (s.control608 chan (controlPair chan (rowIdx.extractLsb' 1 3) (pacB2 rowIdx attr ul)) fun _ c =>
    .quiet (pacEffect (pacRow rowIdx) (pacStyle attr ul) c))

/-- 608.MIDROW, 44 R290: a space in the old style, then the new attributes. -/
def execMidrow608 (chan : BitVec 1) (attr : BitVec 3) (ul : BitVec 1) (s : State) : Out :=
  .next (s.control608 chan (controlPair chan 1#3 (2#3 ++ attr ++ ul)) fun _ c =>
    .quiet (c.onCur fun m => { m.append s.cfg [' '] with style := midrowStyle attr ul m.style }))

/-- Set the background colour of the current buffer (44 R291). -/
def bgEffect (bg : Colour608) (c : Chan608) : Chan608 := c.onCur fun m => { m with style := { m.style with bg := bg } }

/-- 608.BG, 44 R291 form 1. -/
def execBg608 (chan : BitVec 1) (low : BitVec 4) (s : State) : Out :=
  .next (s.control608 chan (controlPair chan 0#3 (2#3 ++ low)) fun _ c => .quiet (bgEffect (bgColour low) c))

/-- 608.BG_BLACK, 44 R291 form 2. -/
def execBgBlack608 (chan : BitVec 1) (s : State) : Out :=
  .next (s.control608 chan (controlPair chan 7#3 0x2D#7) fun _ c => .quiet (bgEffect .black c))

/-! ## Characters (44 R292-R295) -/

/-- 608.SPECIAL, 44 R292. -/
def execSpecial608 (chan : BitVec 1) (idx : BitVec 4) (s : State) : Out :=
  .next (s.control608 chan (controlPair chan 1#3 (3#3 ++ idx)) fun _ c =>
    .quiet (c.onCur fun m => m.append s.cfg (specialGlyph s.cfg idx)))

/-- 608.EXTENDED, 44 R293: backspace first, then the glyph. -/
def execExtended608 (chan : BitVec 1) (table : BitVec 1) (idx : BitVec 5) (s : State) : Out :=
  .next (s.control608 chan (controlPair chan (1#2 ++ table) (1#2 ++ idx)) fun _ c =>
    .quiet (c.onCur fun m => m.removeLast.append s.cfg (extendedGlyph s.cfg table idx)))

/-- 608.UNRECOGNIZED_CONTROL, 44 R294: only the last control pair is written. -/
def execUnrecognized608 (chan : BitVec 1) (low : BitVec 3) (b2 : BitVec 7) (s : State) : Out :=
  .next (s.control608 chan (controlPair chan low b2) fun _ c => .quiet c)

/-- Append a basic byte's glyph, if it has one (44 R295). -/
def appendBasic (cfg : Params) (b : BitVec 7) (m : Mem608) : Mem608 :=
  match basicGlyph cfg b with
  | some g => m.append cfg g
  | none => m

/-- 608.BASIC, 44 R295: two characters to the field's current channel, whose last control pair is forgotten (44 R286). -/
def execBasic608 (b1 b2 : BitVec 7) (s : State) : Out :=
  .next (s.onChan s.textChan fun c =>
    .quiet (Chan608.onCur { c with lastCP := none } fun m => appendBasic s.cfg b2 (appendBasic s.cfg b1 m)))

/-! ## Miscellaneous control codes (44 R298-R311) -/

/-- Mode PopOn, current buffer non-displayed, its scroll size 0 (44 R298). -/
def rclEffect (c : Chan608) : Chan608 := { c with mode := .popOn, cur := .nond, nond := { c.nond with scroll := 0 } }

/-- 608.RCL, 44 R298. -/
def execRcl608 (chan ign : BitVec 1) (s : State) : Out := .next (s.misc608 0 chan ign fun _ c => .quiet (rclEffect c))

/-- 608.BS, 44 R299. -/
def execBs608 (chan ign : BitVec 1) (s : State) : Out :=
  .next (s.misc608 1 chan ign fun _ c => .quiet (c.onCur Mem608.removeLast))

/-- 608.AOF, 44 R300: accepted, no effect beyond R286. -/
def execAof608 (chan ign : BitVec 1) (s : State) : Out := .next (s.misc608 2 chan ign fun _ c => .quiet c)

/-- 608.AON, 44 R301: accepted, no effect beyond R286. -/
def execAon608 (chan ign : BitVec 1) (s : State) : Out := .next (s.misc608 3 chan ign fun _ c => .quiet c)

/-- 608.DER, 44 R302: no effect beyond R286. -/
def execDer608 (chan ign : BitVec 1) (s : State) : Out := .next (s.misc608 4 chan ign fun _ c => .quiet c)

/-- RUn, 44 R303. -/
def ruEffect (cfg : Params) (pts : Rat) (n : Nat) (k : BitVec 2) (c : Chan608) : Eff608 :=
  if c.mode = .rollUp ∨ c.mode = .text then
    .quiet { c with mode := .rollUp, cur := .disp, disp := { c.disp with scroll := n } }
  else
    { ch := { c with
        mode := .rollUp, cur := .disp, disp := { c.disp.clear with row := 15, scroll := n }, nond := c.nond.clear }
      cues := emitMem cfg k c.disp c.prevEndTime pts
      events := [] }

/-- 608.RU2, 44 R303. -/
def execRu2608 (chan ign : BitVec 1) (s : State) : Out := .next (s.misc608 5 chan ign (ruEffect s.cfg s.tx.feed.pts 2))

/-- 608.RU3, 44 R303. -/
def execRu3608 (chan ign : BitVec 1) (s : State) : Out := .next (s.misc608 6 chan ign (ruEffect s.cfg s.tx.feed.pts 3))

/-- 608.RU4, 44 R303. -/
def execRu4608 (chan ign : BitVec 1) (s : State) : Out := .next (s.misc608 7 chan ign (ruEffect s.cfg s.tx.feed.pts 4))

/-- 608.FON, 44 R304: no effect beyond R286. -/
def execFon608 (chan ign : BitVec 1) (s : State) : Out := .next (s.misc608 8 chan ign fun _ c => .quiet c)

/-- Mode PaintOn, current buffer displayed, its scroll size 0, the next caption's start recorded (44 R305). -/
def rdcEffect (pts : Rat) (c : Chan608) : Chan608 :=
  { c with mode := .paintOn, cur := .disp, disp := { c.disp with scroll := 0 }, prevEndTime := pts }

/-- 608.RDC, 44 R305. -/
def execRdc608 (chan ign : BitVec 1) (s : State) : Out :=
  .next (s.misc608 9 chan ign fun _ c => .quiet (rdcEffect s.tx.feed.pts c))

/-- RTD, 44 R307: Text mode, logged once for each entry. -/
def rtdEffect (k : BitVec 2) (c : Chan608) : Eff608 :=
  { ch := { c with mode := .text, cur := .text }
    cues := []
    events := if c.mode = .text then [] else [.textModeUnsupported k] }

/-- 608.TR, 44 R306: the text buffer is cleared, then as RTD. -/
def execTr608 (chan ign : BitVec 1) (s : State) : Out :=
  .next (s.misc608 10 chan ign fun k c => rtdEffect k { c with text := c.text.clear })

/-- 608.RTD, 44 R307. -/
def execRtd608 (chan ign : BitVec 1) (s : State) : Out := .next (s.misc608 11 chan ign rtdEffect)

/-- The displayed memory's cue, unless in Text mode (44 R308, R311). -/
def emitDisplayed (cfg : Params) (pts : Rat) (k : BitVec 2) (c : Chan608) : List Cue :=
  if c.mode = .text then [] else emitMem cfg k c.disp c.prevEndTime pts

/-- 608.EDM, 44 R308: emit, then blank the displayed memory; prevEndTime is not written. -/
def execEdm608 (chan ign : BitVec 1) (s : State) : Out :=
  .next (s.misc608 12 chan ign fun k c =>
    { ch := { c with disp := c.disp.clear }, cues := emitDisplayed s.cfg s.tx.feed.pts k c, events := [] })

/-- CR, 44 R309: in RollUp, emit the displayed memory, roll it up, and record the time; else nothing (D31). -/
def crEffect (cfg : Params) (pts : Rat) (k : BitVec 2) (c : Chan608) : Eff608 :=
  if c.mode = .rollUp then
    { ch := { c with disp := c.disp.rollUp, prevEndTime := pts }
      cues := emitMem cfg k c.disp c.prevEndTime pts
      events := [] }
  else .quiet c

/-- 608.CR, 44 R309. -/
def execCr608 (chan ign : BitVec 1) (s : State) : Out := .next (s.misc608 13 chan ign (crEffect s.cfg s.tx.feed.pts))

/-- 608.ENM, 44 R310: the non-displayed memory is blanked, nothing is emitted. -/
def execEnm608 (chan ign : BitVec 1) (s : State) : Out :=
  .next (s.misc608 14 chan ign fun _ c => .quiet { c with nond := c.nond.clear })

/-- EOC, 44 R311: emit, exchange the displayed and non-displayed memories whole, re-enter PopOn as RCL, record the time. -/
def eocEffect (cfg : Params) (pts : Rat) (k : BitVec 2) (c : Chan608) : Eff608 :=
  { ch := { rclEffect { c with disp := c.nond, nond := c.disp } with prevEndTime := pts }
    cues := emitDisplayed cfg pts k c
    events := [] }

/-- 608.EOC, 44 R311. -/
def execEoc608 (chan ign : BitVec 1) (s : State) : Out := .next (s.misc608 15 chan ign (eocEffect s.cfg s.tx.feed.pts))

end Sys2Proof.Machine
end

