-- ==== Sys2Proof/Machine/Cea708.lean ====
section
/-! DEFINITION. The CEA-708 family (45_cea708.md R360-R405): DTVCC packets, service blocks, and the C0, EXT1, G0, C1, G1, C2, G2,
C3 and G3 codes. A code acts on the service of its block at the pts of its first byte (D38). -/

namespace Sys2Proof.Machine

/-! ## DTVCC packet assembly (45 R360-R363) -/

/-- The number of body bytes of a packet_size_code (45 R361, 30 R126). -/
def packetLength (code : BitVec 6) : Nat := if code = 0 then 127 else 2 * code.toNat - 1

/-- DTVCC.PACKET_START, 45 R361: an unfinished packet is dropped and logged, and a new one opens. -/
def execDtvccPacketStart (_seq : BitVec 2) (code : BitVec 6) (s : State) : Out :=
  let b := s.d708.builder
  let s' := if b.isOpen then s.logEvent (.dtvccPacketDropped b.bytes.length (b.bytes.length + b.remaining)) else s
  .next { s' with d708 := { s'.d708 with builder := { isOpen := true, remaining := packetLength code, bytes := [] } } }

/-- DTVCC.DATA, 45 R362: dropped when no packet is open; the last byte completes the packet (45 R363), which joins the completed
packets (10 R37) and whose service blocks run before the next queue entry. -/
def execDtvccData (value : Byte) (s : State) : Out :=
  let b := s.d708.builder
  if b.isOpen then
    let bytes := b.bytes ++ [(value, s.tx.feed.pts)]
    let left := b.remaining - 1
    if openAfter left then
      .next { s with d708 := { s.d708 with builder := { isOpen := true, remaining := left, bytes := bytes } } }
    else
      .next { s with
        phase := .svc
        d708 := { s.d708 with builder := Builder.reset }
        tx := { s.tx with
          packets := s.tx.packets ++ [bytes]
          feed := { s.tx.feed with pkt := bytes, pos := 0, ext := none } } }
  else .next s

/-! ## Service blocks (45 R364-R368) -/

/-- Enter a block of service `n` with `size` bytes from the index on; the service is created on first reference (45 R368). -/
def State.enterBlock (s : State) (n : BitVec 6) (size : Nat) : State :=
  let s' : State :=
    { s with phase := .cmd, tx := { s.tx with feed := { s.tx.feed with svc := n, blockEnd := s.tx.feed.pos + size } } }
  s'.putService s'.curService

/-- Skip a block (45 R366). -/
def State.skipBlock (s : State) (size : Nat) : State :=
  { s with tx := { s.tx with feed := { s.tx.feed with pos := min (s.tx.feed.pos + size) s.tx.feed.pkt.length } } }

/-- SVC.HEADER, 45 R365. -/
def execSvcHeader (svc : BitVec 3) (size : BitVec 5) (s : State) : Out := .next (s.enterBlock (0#3 ++ svc) size.toNat)

/-- SVC.EXTENDED, 45 R364, R365: service 0 is skipped. -/
def execSvcExtended (size : BitVec 5) (_ign : BitVec 2) (svc : BitVec 6) (s : State) : Out :=
  if svc = 0 then .next (s.skipBlock size.toNat) else .next (s.enterBlock svc size.toNat)

/-- SVC.NULL_OR_EMPTY, 45 R366: nothing is executed or created. -/
def execSvcNullOrEmpty (_svc : BitVec 3) (size : BitVec 5) (s : State) : Out := .next (s.skipBlock size.toNat)

/-! ## C0 codes and EXT1 (45 R374-R378, R370) -/

/-- C0.NOP, 45 R378. -/
def execC0Nop (_code : Byte) (s : State) : Out := .next s

/-- Backspace, 45 R374: retreat, then erase; nothing out of bounds or at (0,0). -/
def Window.backspace (w : Window) : Window :=
  if penInBounds w then
    if w.pen.col > 0 then (w.setCell w.pen.row (w.pen.col - 1) none).penAt w.pen.row (w.pen.col - 1)
    else if w.pen.row > 0 then (w.setCell (w.pen.row - 1) (w.colCount - 1) none).penAt (w.pen.row - 1) (w.colCount - 1)
    else w
  else w

/-- C0.BS, 45 R374. -/
def execC0Bs (s : State) : Out := .next (s.onCurrent fun w => (w.backspace, []))

/-- C0.FF, 45 R377: emit if visible, empty the memory, pen to (0,0). -/
def execC0Ff (s : State) : Out :=
  .next (s.onCurrent fun w =>
    let e := emitIfVisible s.cfg s.tx.feed.svc s.tx.feed.pts w
    (e.1.clearMem.penAt 0 0, e.2))

/-- The pen after a carriage return (45 R375): column 0 and the next row, or a scroll on the last row. -/
def Window.carriageReturn (w : Window) : Window :=
  if w.pen.row + 1 < w.rowCount then w.penAt (w.pen.row + 1) 0 else (w.scrollUp).penAt w.pen.row 0

/-- C0.CR, 45 R375: emit if visible, then advance. -/
def execC0Cr (s : State) : Out :=
  .next (s.onCurrent fun w =>
    let e := emitIfVisible s.cfg s.tx.feed.svc s.tx.feed.pts w
    (e.1.carriageReturn, e.2))

/-- C0.HCR, 45 R376: emit if visible, empty the pen's row, column 0. -/
def execC0Hcr (s : State) : Out :=
  .next (s.onCurrent fun w =>
    let e := emitIfVisible s.cfg s.tx.feed.svc s.tx.feed.pts w
    ((e.1.clearRow w.pen.row).penAt w.pen.row 0, e.2))

/-- EXT1, 45 R370, R372: the next byte is decoded with it as one extended code; the index has passed the 0x10 (log entry 17). -/
def execExt1 (s : State) : Out := .next { s with tx := { s.tx with feed := { s.tx.feed with ext := some (s.tx.feed.pos - 1) } } }

/-! ## Characters (45 R397-R401) -/

/-- G0, 45 R397. -/
def execG0 (code : Byte) (s : State) : Out := .next (s.onCurrent fun w => (w.write (g0Glyph code), []))

/-- G0.NOTE, 45 R397. -/
def execG0Note (s : State) : Out := .next (s.onCurrent fun w => (w.write noteGlyph, []))

/-- G1, 45 R398. -/
def execG1 (code : Byte) (s : State) : Out := .next (s.onCurrent fun w => (w.write (g1Glyph code), []))

/-- G2, 45 R399. -/
def execG2 (x : Byte) (s : State) : Out := .next (s.onCurrent fun w => (w.write (g2Glyph s.cfg x), []))

/-- G3, 45 R400. -/
def execG3 (x : Byte) (s : State) : Out := .next (s.onCurrent fun w => (w.write (g3Glyph s.cfg x), []))

/-! ## C1 codes (45 R380-R394) -/

/-- CWx, 45 R380: select a window that is present; else unchanged. -/
def execCwx (x : BitVec 3) (s : State) : Out :=
  let sv := s.curService
  if (sv.win[x.toNat]'x.isLt).isSome then .next (s.putService { sv with current := some x }) else .next s

/-- CLW, 45 R381: each target is emitted if visible, then its memory is emptied. -/
def execClw (bitmap : Byte) (s : State) : Out :=
  .next (s.onWindows (targeted bitmap) fun w =>
    let e := emitIfVisible s.cfg s.tx.feed.svc s.tx.feed.pts w
    (some e.1.clearMem, e.2))

/-- DSW, 45 R382. -/
def execDsw (bitmap : Byte) (s : State) : Out :=
  .next (s.onWindows (targeted bitmap) fun w => (some (showWindow s.tx.feed.pts w), []))

/-- HDW, 45 R383. -/
def execHdw (bitmap : Byte) (s : State) : Out :=
  .next (s.onWindows (targeted bitmap) fun w =>
    let e := emitIfVisible s.cfg s.tx.feed.svc s.tx.feed.pts w
    (some { e.1 with visible := false }, e.2))

/-- TGW, 45 R384. -/
def execTgw (bitmap : Byte) (s : State) : Out :=
  .next (s.onWindows (targeted bitmap) fun w =>
    let e := emitIfVisible s.cfg s.tx.feed.svc s.tx.feed.pts w
    if w.visible then (some { e.1 with visible := false }, e.2) else (some { w with visible := true, start := s.tx.feed.pts }, []))

/-- DLW, 45 R385: each target is emitted if visible and removed; a removed current window leaves none. -/
def execDlw (bitmap : Byte) (s : State) : Out :=
  .next ((s.onWindows (targeted bitmap) fun w => (none, (emitIfVisible s.cfg s.tx.feed.svc s.tx.feed.pts w).2)).dropCurrent
    (s.curService.currentIn (targeted bitmap)))

/-- DLY, 45 R386: the byte is consumed. -/
def execDly (_p1 : Byte) (s : State) : Out := .next s

/-- DLC, 45 R387. -/
def execDlc (s : State) : Out := .next s

/-- RST, 45 R388: every window is emitted if visible and removed, and there is no current window. -/
def execRst (s : State) : Out :=
  let s' := s.onWindows (fun _ => true) fun w => (none, (emitIfVisible s.cfg s.tx.feed.svc s.tx.feed.pts w).2)
  .next (s'.putService { s'.curService with current := none })

/-- SPA, 45 R389: italics and underline from p2 bits 7 and 6. -/
def execSpa (_p1 p2 : Byte) (s : State) : Out :=
  .next (s.onCurrent fun w => ({ w with pen := { w.pen with it := p2.getLsbD 7, ul := p2.getLsbD 6 } }, []))

/-- SPC, 45 R390: foreground and background from p1 and p2. -/
def execSpc (p1 p2 _p3 : Byte) (s : State) : Out :=
  .next (s.onCurrent fun w => ({ w with pen := { w.pen with fg := quant p1, bg := quant p2 } }, []))

/-- SPL, 45 R391. -/
def execSpl (p1 p2 : Byte) (s : State) : Out :=
  .next (s.onCurrent fun w => (w.penAt (p1 &&& 0x0F#8).toNat (p2 &&& 0x3F#8).toNat, []))

/-- C1.RESERVED, 45 R392. -/
def execC1Reserved (_code : Byte) (s : State) : Out := .next s

/-- SWA, 45 R393: justification from p3 bits 1:0. -/
def execSwa (_p1 _p2 p3 _p4 : Byte) (s : State) : Out :=
  .next (s.onCurrent fun w => ({ w with justify := p3.extractLsb' 0 2 }, []))

/-- A window not defined before, as DFx finds it (45 R394). -/
def newWindow (cfg : Params) (pts : Rat) : Window :=
  { visible := false, relToggle := false, vAnchor := 0, hAnchor := 0, anchorId := 0, rowCount := 1, colCount := 1, justify := 0,
    mem := WinMem.empty cfg, pen := Pen.reset, start := pts }

/-- What DFx makes of a window that may have existed (45 R394). -/
def defineWindow (cfg : Params) (pts : Rat) (f : DfxFields) (old : Option Window) : Window :=
  let w := old.getD (newWindow cfg pts)
  { w with
    visible := f.vis, relToggle := f.rel, vAnchor := f.va, hAnchor := f.ha, anchorId := f.aid, rowCount := f.rc,
    colCount := f.cc
    pen := if old.isNone ∨ f.penStyle = 0 then Pen.reset else w.pen
    start := if old.isSome ∧ w.visible = false ∧ f.vis = true then pts else w.start }

/-- DFx, 45 R394: defines window x and makes it current; no cue. -/
def execDfx (x : BitVec 3) (p1 p2 p3 p4 p5 p6 : Byte) (s : State) : Out :=
  let sv := s.curService
  let w := defineWindow s.cfg s.tx.feed.pts (dfxFields p1 p2 p3 p4 p5 p6) (sv.win[x.toNat]'x.isLt)
  .next (s.putService { win := sv.win.set x.toNat (some w) x.isLt, current := some x })

/-! ## C2 and C3 codes: only their bytes are consumed (45 R395, R396) -/

/-- C2.SKIP0, 45 R395. -/
def execC2Skip0 (_x : BitVec 3) (s : State) : Out := .next s

/-- C2.SKIP1, 45 R395. -/
def execC2Skip1 (_x : BitVec 3) (_p1 : Byte) (s : State) : Out := .next s

/-- C2.SKIP2, 45 R395. -/
def execC2Skip2 (_x : BitVec 3) (_p1 _p2 : Byte) (s : State) : Out := .next s

/-- C2.SKIP3, 45 R395. -/
def execC2Skip3 (_x : BitVec 3) (_p1 _p2 _p3 : Byte) (s : State) : Out := .next s

/-- C3.SKIP4, 45 R396. -/
def execC3Skip4 (_x : BitVec 3) (_p1 _p2 _p3 _p4 : Byte) (s : State) : Out := .next s

/-- C3.SKIP5, 45 R396. -/
def execC3Skip5 (_x : BitVec 3) (_p1 _p2 _p3 _p4 _p5 : Byte) (s : State) : Out := .next s

/-- C3.SKIP0, 45 R396. -/
def execC3Skip0 (_x : BitVec 4) (s : State) : Out := .next s

end Sys2Proof.Machine
end

