-- ==== Sys2Proof/Machine/Transaction.lean ====
section
/-! DEFINITION. The control transitions of a SUBMIT (43_sei_extractor.md R230-R236, R252-R255; 41_box_engine.md R155, R156, R158,
R162): what the block does where no instruction is next. Log entry 1 says how they make one step each. -/

namespace Sys2Proof.Machine

/-! ## Starting a transaction (43 R230 steps 1 to 5) -/

/-- The space a pass walks, of a transaction (41 R160, R161). -/
def Tx.spaceOf (t : Tx) : Pass → Memory
  | .init => t.initSpace
  | .media => t.mediaSpace
  | .fields => t.mediaSpace

/-- Start a box pass: a fresh parser instance with fresh accumulators and transient state (41 R155, R159; 43 R235). -/
def State.startPass (s : State) (p : Pass) : State :=
  { s with
    phase := .boxHeader
    tx := { s.tx with
      pass := p
      frames := [{ pos := 0, stop := (s.tx.spaceOf p).size, count := none, trak := none, encv := none }]
      box := .empty, acc := .empty, slots := .empty, q608 := [], q708 := [], order := 0, packets := [] } }

/-- Steps 4 and 5 of 43 R230: while the flag is set, EXTRACTION_DISABLED ends the transaction (R234). -/
def State.checkDisabled (s : State) : State :=
  if s.disabled then (s.logEvent .extractionDisabled).finish false else s.startPass .media

/-- Steps 2 and 3 of 43 R230: a segment already seen ends the transaction (R232); an init not parsed yet, or a different one, is
parsed first (R233). -/
def State.checkSegment (s : State) : State :=
  if s.tx.segId ∈ s.dedup.seen then (s.logEvent (.duplicateSegment s.tx.segId)).finish false
  else if s.init.parsed = some s.tx.initSpace then s.checkDisabled
  else s.startPass .init

/-- Step 1 of 43 R230: a new period clears the state and is recorded (R231). -/
def State.checkPeriod (s : State) (period : Str) : State :=
  if s.dedup.period = some period then s
  else (s.clear).setDedup { period := some period, seen := [] }

/-- The transient state of a new SUBMIT: its two byte spaces and its names (20_memory.md R70), and what it finds of S. -/
def Tx.ofSubmit (init media : List Byte) (segId perId : Str) (found : Found) : Tx :=
  { Tx.empty with
    initSpace := Memory.ofBytes init, mediaSpace := Memory.ofBytes media, segId := segId, perId := perId, found := found }

/-- Begin the transient state of a SUBMIT whose period has been checked: what S is then is what its failure leaves (60 R472). -/
def State.beginSubmit (s : State) (init media : List Byte) (segId perId : Str) : State :=
  s.setTx (Tx.ofSubmit init media segId perId { init := s.init, disabled := s.disabled })

/-- SUBMIT, 43 R230. -/
def State.submit (s : State) (init media : List Byte) (segId perId : Str) : State :=
  ((s.checkPeriod perId).beginSubmit init media segId perId).checkSegment

/-- The result of a CLEAR: no cue, no timing record, no event (70 R501). -/
def TxResult.ofClear : TxResult := { cues := [], timing := [], events := [], abnormal := false }

/-- Take the next transaction of the host; with none, wait (00_scope.md R12, 70 R500, log entry 2). -/
def State.nextTransaction (s : State) : State :=
  match s.inbox with
  | [] => s
  | .clear :: r => ((s.clear).setInbox r).setOutbox (s.outbox ++ [TxResult.ofClear])
  | .submit init media segId perId :: r => (s.setInbox r).submit init media segId perId

/-! ## The end of a level and of a pass (41 R155, R156, R158; 43 R233, R234, R252) -/

/-- The bitstream of a completed init pass: a codec still unset is Unknown (41 R162). -/
def bitstreamOf : Option Codec → Bitstream
  | none => .unknown
  | some .h264 => .h264
  | some .h265 => .h265

/-- `S.init.timescale`: the complete pairs in slot order, a later pair for a track replacing an earlier one (42 R184). -/
def timescaleOf (pairs : List (Option Word × Option Word)) : List (Word × Word) :=
  pairs.foldl (fun m p => match p with
    | (some id, some ts) => mapPut id ts m
    | _ => m) []

/-- `S.init` after a completed init pass (43 R233). -/
def initContext (space : Memory) (a : InitAcc) : InitCtx :=
  { parsed := some space, timescale := timescaleOf a.pairs, movieTimescale := a.movieTimescale, trex := a.trex,
    bitstream := bitstreamOf a.codec }

/-- UNKNOWN_BITSTREAM where the pass found no codec (43 R234). -/
def unknownEvents (b : Bitstream) (a : InitAcc) : List Event := if disabledBy b then [.unknownBitstream a.firstEntry] else []

/-- The init pass completes: `S.init` is replaced whole, the disable flag is set or lowered, and step 4 follows (43 R233, R234). -/
def State.endInit (s : State) : State :=
  let x := initContext s.tx.initSpace s.tx.acc
  (((s.setInit x).setDisabled (disabledBy x.bitstream)).logEvents (unknownEvents x.bitstream s.tx.acc)).checkDisabled

/-- The order of the decode step: by pts, then by arrival (43 R252). -/
def before (p : Rat) (i : Nat) (q : Rat) (j : Nat) : Bool := decide (p < q) || (p == q && decide (i ≤ j))

/-- The media pass completes: the queues are sorted and the decode step begins (43 R252). -/
def State.endMedia (s : State) : State :=
  { s with
    phase := .dec608
    tx := { s.tx with
      q608 := sortBy (fun a b => before a.pts a.order b.pts b.order) s.tx.q608
      q708 := sortBy (fun a b => before a.pts a.order b.pts b.order) s.tx.q708 } }

/-- The box walk completes. -/
def State.endPass (s : State) : State :=
  match s.tx.pass with
  | .init => s.endInit
  | .media => s.endMedia
  | .fields => s.finish false

/-- Is a level of the walk at its end: the counted boxes are parsed (41 R158), or the range is exhausted (41 R155, R156)? -/
def Frame.done (f : Frame) : Bool :=
  match f.count with
  | some n => n == 0
  | none => decide (f.stop ≤ f.pos)

/-- The end of a level goes back to the enclosing one; the end of the outermost ends the pass. -/
def State.endLevel (s : State) : State :=
  match s.tx.frames with
  | [] => s.endPass
  | _ :: r => { s with tx := { s.tx with frames := r } }

/-! ## The end of the inner loops -/

/-- Step 7 of 43 R230: the segment has completed (43 R254). -/
def State.complete (s : State) : State :=
  (s.setDedup { s.dedup with seen := setAdd s.tx.segId s.dedup.seen }).finish false

/-- Discard the rest of a packet with DTVCC_OVERRUN (45 R364, R367). -/
def State.overrun (s : State) (svc : BitVec 6) (index : Nat) : State :=
  ({ s with phase := .dec708, tx := { s.tx with feed := { s.tx.feed with ext := none } } }).logEvent (.dtvccOverrun svc index)

/-- One control transition, by the active stage: the NAL walk ends into the box walk (43 R238, R241), the SEI loop into the NAL
walk (R246), the triples into the SEI loop (R247), the 608 queue into the 708 queue and that into completion (R252, R254), the
service blocks into the 708 queue and a block into the next block header (45 R364). -/
def State.control (s : State) : State :=
  match s.phase with
  | .idle => s.nextTransaction
  | .boxHeader => s.endLevel
  | .boxDispatch => s
  | .nal => s.setPhase .boxHeader
  | .sei => s.setPhase .nal
  | .t35 => s
  | .cc => s.setPhase .sei
  | .dec608 => s.setPhase .dec708
  | .dec708 => s.complete
  | .svc => s.setPhase .dec708
  | .cmd => s.setPhase .svc

end Sys2Proof.Machine
end

