-- ==== Sys2Proof/Machine/Fetch.lean ====
section
/-! DEFINITION. Fetching (10_state.md R22: every box, NAL, SEI message and byte pair is decoded at the cursor of its reader): where
the next instruction stands and in which language, the cursor's advance past it, what happens where its bytes do not fit, and
the placing of a word at the cursor. -/

namespace Sys2Proof.Machine

/-- The codec of a known bitstream (43 R239). -/
def Bitstream.codec : Bitstream → Option Codec
  | .h264 => some .h264
  | .h265 => some .h265
  | .none => Option.none
  | .unknown => Option.none

/-! ## Where the next instruction stands -/

/-- The bytes at a cursor of a range, at most `n`. -/
def bytesAt (m : Memory) (pos stop n : Nat) : List Byte := m.slice pos (min n (stop - pos))

/-- The box walk: a header at the top reader's cursor, unless the level is done (41 R151, R155). -/
def State.fetchHeader (s : State) : Option (Lang × List Byte) :=
  match s.tx.frames with
  | [] => none
  | f :: _ => if f.done then none else some (.boxHeader, bytesAt s.boxMem f.pos f.stop 16)

/-- Is a type registered as FULL (41 R150)? -/
def isFull (p : Pass) (t : Fourcc) : Bool :=
  match registered p t with
  | some (.full, _) => true
  | some (.basic, _) => false
  | none => false

/-- Inside a box: the version and flags word of a FULL box first, then the type (41 R153). -/
def State.fetchBox (s : State) : Option (Lang × List Byte) :=
  if isFull s.tx.pass s.tx.box.type && s.tx.box.version.isNone then
    some (.boxVf, bytesAt s.boxMem s.tx.box.pos s.tx.box.stop 4)
  else some (.boxType s.tx.pass (s.tx.box.version == some 1#8), wordBytes s.tx.box.type)

/-- The NAL walk: a NAL at the cursor while samples are left, its length prefix fits and its bytes fit (43 R238, R241). -/
def State.fetchNal (s : State) : Option (Lang × List Byte) :=
  let w := s.tx.walk
  match s.init.bitstream.codec with
  | none => none
  | some c =>
    if w.rest.isEmpty || decide (w.stop < w.pos + 4) then none
    else if w.stop < w.pos + 4 + bigValue (s.tx.mediaSpace.slice w.pos 4) then none
    else some (.nal c, bytesAt s.tx.mediaSpace w.pos w.stop 5)

/-- The SEI loop: a message at the cursor while bytes are left (43 R246). -/
def State.fetchSei (s : State) : Option (Lang × List Byte) :=
  let r := s.tx.sei
  if r.nalbuf.size ≤ r.pos then none else some (.sei, bytesAt r.nalbuf r.pos r.nalbuf.size (r.nalbuf.size - r.pos))

/-- The T.35 payload: its first 9 bytes (43 R247). -/
def State.fetchT35 (s : State) : Option (Lang × List Byte) :=
  some (.t35, bytesAt s.tx.sei.t35 s.tx.sei.t35Pos s.tx.sei.t35.size 9)

/-- The triples: as many as `cc_count` says (43 R247, R248). -/
def State.fetchTriple (s : State) : Option (Lang × List Byte) :=
  if s.tx.sei.triples = 0 then none else some (.triple, bytesAt s.tx.sei.t35 s.tx.sei.t35Pos s.tx.sei.t35.size 3)

/-- The last control pair of the channel that a raw pair, if it is a control pair, would go to (44 R284, R286). -/
def State.lastControl (s : State) (field : BitVec 1) (c1 : Byte) : Option Pair :=
  let k := chanIndex field (c1.extractLsb' 3 1)
  (s.d608.chan[k.toNat]'k.isLt).lastCP

/-- The next pair of the 608 queue (43 R252). -/
def State.fetch608 (s : State) : Option (Lang × List Byte) :=
  match s.tx.q608 with
  | [] => none
  | p :: _ => some (.pair (s.lastControl p.field p.b1), [p.b1, p.b2])

/-- The next byte of the 708 queue (43 R252). -/
def State.fetch708 (s : State) : Option (Lang × List Byte) :=
  match s.tx.q708 with
  | [] => none
  | b :: _ => some (.dtvcc b.start, [b.value])

/-- The values of the packet's bytes from an index on, at most `n`. -/
def Feed.bytes (f : Feed) (i n : Nat) : List Byte := ((f.pkt.drop i).take n).map Prod.fst

/-- The next service block header of the packet (45 R364). -/
def State.fetchSvc (s : State) : Option (Lang × List Byte) :=
  let f := s.tx.feed
  if f.pkt.length ≤ f.pos then none else some (.svc, f.bytes f.pos 2)

/-- The next code of the block: read from the packet even where its bytes lie past the block's end (45 R364, R367, R370). -/
def State.fetchCode (s : State) : Option (Lang × List Byte) :=
  let f := s.tx.feed
  match f.ext with
  | some i => some (.codeExt, f.bytes i 7)
  | none => if f.blockEnd ≤ f.pos then none else some (.code, f.bytes f.pos 7)

/-- Where the next instruction is decoded: its language and the bytes from the cursor on; nothing where none is next. -/
def State.fetchPoint (s : State) : Option (Lang × List Byte) :=
  match s.phase with
  | .idle => none
  | .boxHeader => s.fetchHeader
  | .boxDispatch => s.fetchBox
  | .nal => s.fetchNal
  | .sei => s.fetchSei
  | .t35 => s.fetchT35
  | .cc => s.fetchTriple
  | .dec608 => s.fetch608
  | .dec708 => s.fetch708
  | .svc => s.fetchSvc
  | .cmd => s.fetchCode

/-! ## Passing the instruction -/

/-- The header's start is recorded and the reader passes the header (41 R151). -/
def Tx.passHeader (t : Tx) (n : Nat) : Tx :=
  match t.frames with
  | [] => t
  | f :: r => { t with frames := { f with pos := f.pos + n } :: r, box := { t.box with start := f.pos } }

/-- The sub-reader passes the version and flags word; looking up a type reads nothing (41 R153). -/
def Tx.passBox (t : Tx) (n : Nat) : Tx :=
  if isFull t.pass t.box.type && t.box.version.isNone then { t with box := { t.box with pos := t.box.pos + n } } else t

/-- A pair leaves the queue; its pts and field are those of the pair being fed (44 R280). -/
def Tx.pass608 (t : Tx) : Tx :=
  match t.q608 with
  | [] => t
  | p :: r => { t with q608 := r, feed := { t.feed with pts := p.pts, field := p.field } }

/-- A byte leaves the queue; its pts is that of the byte being fed (45 R362). -/
def Tx.pass708 (t : Tx) : Tx :=
  match t.q708 with
  | [] => t
  | b :: r => { t with q708 := r, feed := { t.feed with pts := b.pts } }

/-- The pts of the byte at an index of the packet. -/
def Feed.ptsAt (f : Feed) (i : Nat) : Rat := (f.pkt[i]?.map Prod.snd).getD 0

/-- The index passes a code of `n` bytes, at the pts of its first byte (45 R370, D38). -/
def Feed.passCode (f : Feed) (n : Nat) : Feed :=
  let i := f.ext.getD f.pos
  { f with pts := f.ptsAt i, pos := i + n, ext := none }

/-- The cursor of the active stage passes an instruction of `n` bytes. A NAL's length and bytes are passed by its meaning, which
needs the cursor at the prefix (43 R238). -/
def State.advance (s : State) (n : Nat) : State :=
  match s.phase with
  | .idle => s
  | .boxHeader => s.setTx (s.tx.passHeader n)
  | .boxDispatch => s.setTx (s.tx.passBox n)
  | .nal => s
  | .sei => s.setTx { s.tx with sei := { s.tx.sei with pos := s.tx.sei.pos + n } }
  | .t35 => s.setTx { s.tx with sei := { s.tx.sei with t35Pos := s.tx.sei.t35Pos + n } }
  | .cc => s.setTx { s.tx with sei := { s.tx.sei with t35Pos := s.tx.sei.t35Pos + n, triples := s.tx.sei.triples - 1 } }
  | .dec608 => s.setTx s.tx.pass608
  | .dec708 => s.setTx s.tx.pass708
  | .svc => s.setTx { s.tx with feed := { s.tx.feed with pos := s.tx.feed.pos + n } }
  | .cmd => s.setTx { s.tx with feed := s.tx.feed.passCode n }

/-! ## Bytes that do not fit -/

/-- A failed read of a stage: a BoundsError that records where it was wanted (20_memory.md R72, 60 R471). -/
def State.readFails (s : State) (space : Space) (pos : Nat) : DecodeError → State
  | .truncated at_ need => s.takeBounds { space := space, pos := pos + at_, n := need, reason := .pastEnd }

/-- What happens where an instruction's bytes do not fit: a BoundsError in the box walk (41 R151, R153) and in a T.35 payload
(43 R247, R248); the end of the walk for a NAL (R241), of the message loop for a SEI message (R246); DTVCC_OVERRUN in a packet
(45 R364, R367; log entries 15, 16). A queue entry always fits. -/
def State.reject (s : State) (e : DecodeError) : State :=
  match s.phase with
  | .idle => s
  | .boxHeader => s.readFails (passSpace s.tx.pass) ((s.tx.frames.head?.map (·.pos)).getD 0) e
  | .boxDispatch => s.readFails (passSpace s.tx.pass) s.tx.box.pos e
  | .nal => s.setPhase .boxHeader
  | .sei => s.setPhase .nal
  | .t35 => s.readFails .t35 s.tx.sei.t35Pos e
  | .cc => s.readFails .t35 s.tx.sei.t35Pos e
  | .dec608 => s.setPhase .dec708
  | .dec708 => s.complete
  | .svc => s.overrun 7 (s.tx.feed.pos + 1)
  | .cmd => s.overrun s.tx.feed.svc (s.tx.feed.ext.getD s.tx.feed.pos)

/-! ## Placing a word at the cursor (log entry 4) -/

/-- The reader of a whole space. -/
def wholeFrame (n : Nat) : Frame := { pos := 0, stop := n, count := none, trak := none, encv := none }

/-- A header at the start of a MEDIA space. -/
def State.placeHeader (s : State) (bs : List Byte) : State :=
  { s with
    phase := .boxHeader
    tx := { s.tx with pass := .media, mediaSpace := Memory.ofBytes bs, frames := [wholeFrame bs.length] } }

/-- A box whose header has been read, with a body of zeros. -/
def State.placeBox (s : State) (p : Pass) (version : Option Byte) (type : Fourcc) (body : List Byte) : State :=
  { s with
    phase := .boxDispatch
    tx := { s.tx with
      pass := p, initSpace := Memory.ofBytes body, mediaSpace := Memory.ofBytes body, frames := [wholeFrame body.length]
      box := { start := 0, size := body.length, type := type, base := 0, pos := 0, stop := body.length, version := version,
               flags := version.map fun _ => 0#24 } } }

/-- A NAL of one sample at the start of a MEDIA space. -/
def State.placeNal (s : State) (c : Codec) (bs : List Byte) : State :=
  { s with
    init := { s.init with bitstream := bitstreamOf (some c) }
    phase := .nal
    tx := { s.tx with
      mediaSpace := Memory.ofBytes bs
      walk := { pos := 0, stop := bs.length, rest := [{ size := bs.length, dur := 0, cto := 0 }], time := 0, used := 0, ts := 1 } } }

/-- A raw pair at the head of the 608 queue, on field 0; a last control pair is placed on its channel. -/
def State.placePair (s : State) (last : Option Pair) (c1 c2 : Byte) : State :=
  let k := chanIndex 0 (c1.extractLsb' 3 1)
  let ch := s.d608.chan[k.toNat]'k.isLt
  let s' := match last with
    | some v => s.setD608 { s.d608 with chan := s.d608.chan.set k.toNat { ch with lastCP := some v } k.isLt }
    | none => s
  { s' with phase := .dec608, tx := { s'.tx with q608 := [{ pts := 0, field := 0, b1 := c1, b2 := c2, order := 0 }] } }

/-- Codes at the start of a packet, in a block of service 1. -/
def State.placeCode (s : State) (ext : Option Nat) (pos : Nat) (bs : List Byte) : State :=
  { s with
    phase := .cmd
    tx := { s.tx with
      feed := { s.tx.feed with
        pkt := bs.map (·, (0 : Rat)), pos := pos, svc := 1, blockEnd := bs.length, ext := ext } } }

/-- Place the bytes of one instruction where the stage of its language fetches next. -/
def State.place (s : State) (l : Lang) (bs : List Byte) : State :=
  match l, bs with
  | .boxHeader, bs => s.placeHeader bs
  | .boxVf, bs => s.placeBox .media none 0x74666864 bs
  | .boxType p v1, a :: b :: c :: d :: r =>
    s.placeBox p (some (if v1 then 1#8 else 0#8)) (be32 a b c d) (if r.isEmpty then List.replicate 96 0 else r)
  | .nal c, bs => s.placeNal c bs
  | .sei, bs => { s with phase := .sei, tx := { s.tx with sei := { s.tx.sei with nalbuf := Memory.ofBytes bs, pos := 0 } } }
  | .t35, bs => { s with phase := .t35, tx := { s.tx with sei := { s.tx.sei with t35 := Memory.ofBytes bs, t35Pos := 0 } } }
  | .triple, bs =>
    { s with
      phase := .cc, tx := { s.tx with sei := { s.tx.sei with t35 := Memory.ofBytes bs, t35Pos := 0, triples := 1 } } }
  | .pair last, c1 :: c2 :: _ => s.placePair last c1 c2
  | .dtvcc start, v :: _ =>
    { s with phase := .dec708, tx := { s.tx with q708 := [{ pts := 0, start := start, value := v, order := 0 }] } }
  | .svc, bs =>
    { s with phase := .svc, tx := { s.tx with feed := { s.tx.feed with pkt := bs.map (·, (0 : Rat)), pos := 0 } } }
  | .code, bs => s.placeCode none 0 bs
  | .codeExt, bs => s.placeCode (some 0) 1 bs
  | .boxType _ _, _ => s
  | .pair _, _ => s
  | .dtvcc _, _ => s

/-- Place a word of the opcode table, in the language of log entry 3. -/
def State.placeWord (s : State) (nbits w : Nat) : State :=
  match tableLang nbits w with
  | none => s
  | some l => s.place l (tableBytes nbits w)

end Sys2Proof.Machine
end

