-- ==== Sys2Proof/Machine/Dispatch.lean ====
section
/-! DEFINITION. One arm for each constructor of Instr: a direct call of its meaning. -/

namespace Sys2Proof.Machine

def exec (i : Instr) (s : State) : Host.Outcome State Fault Refusal :=
  match i with
  | .boxSizeLiteral size type => Sys2Proof.Machine.execBoxSizeLiteral size type s
  | .boxSizeRest type => Sys2Proof.Machine.execBoxSizeRest type s
  | .boxLargesize type large => Sys2Proof.Machine.execBoxLargesize type large s
  | .boxFullVf version flags => Sys2Proof.Machine.execBoxFullVf version flags s
  | .boxUnregistered type => Sys2Proof.Machine.execBoxUnregistered type s
  | .boxMoov => Sys2Proof.Machine.execBoxMoov s
  | .boxTrak => Sys2Proof.Machine.execBoxTrak s
  | .boxMdia => Sys2Proof.Machine.execBoxMdia s
  | .boxMinf => Sys2Proof.Machine.execBoxMinf s
  | .boxStbl => Sys2Proof.Machine.execBoxStbl s
  | .boxMvex => Sys2Proof.Machine.execBoxMvex s
  | .boxSinf => Sys2Proof.Machine.execBoxSinf s
  | .boxStsd => Sys2Proof.Machine.execBoxStsd s
  | .boxAvc1 => Sys2Proof.Machine.execBoxAvc1 s
  | .boxAvc3 => Sys2Proof.Machine.execBoxAvc3 s
  | .boxHvc1 => Sys2Proof.Machine.execBoxHvc1 s
  | .boxHev1 => Sys2Proof.Machine.execBoxHev1 s
  | .boxEncv => Sys2Proof.Machine.execBoxEncv s
  | .boxFrma => Sys2Proof.Machine.execBoxFrma s
  | .boxMvhd => Sys2Proof.Machine.execBoxMvhd s
  | .boxTkhd => Sys2Proof.Machine.execBoxTkhd s
  | .boxMdhd => Sys2Proof.Machine.execBoxMdhd s
  | .boxTrex => Sys2Proof.Machine.execBoxTrex s
  | .boxMoof => Sys2Proof.Machine.execBoxMoof s
  | .boxTraf => Sys2Proof.Machine.execBoxTraf s
  | .boxTfhd => Sys2Proof.Machine.execBoxTfhd s
  | .boxTfdt => Sys2Proof.Machine.execBoxTfdt s
  | .boxTrun => Sys2Proof.Machine.execBoxTrun s
  | .boxMdat => Sys2Proof.Machine.execBoxMdat s
  | .boxEmsg => Sys2Proof.Machine.execBoxEmsg s
  | .boxSidx => Sys2Proof.Machine.execBoxSidx s
  | .boxElst => Sys2Proof.Machine.execBoxElst s
  | .boxTenc => Sys2Proof.Machine.execBoxTenc s
  | .boxPrft => Sys2Proof.Machine.execBoxPrft s
  | .boxEmsgV1 => Sys2Proof.Machine.execBoxEmsgV1 s
  | .nalH264Sei len ign => Sys2Proof.Machine.execNalH264Sei len ign s
  | .nalH264Other len header => Sys2Proof.Machine.execNalH264Other len header s
  | .nalH265SeiPre len ign7 ign0 => Sys2Proof.Machine.execNalH265SeiPre len ign7 ign0 s
  | .nalH265SeiSuf len ign7 ign0 => Sys2Proof.Machine.execNalH265SeiSuf len ign7 ign0 s
  | .nalH265Other len header => Sys2Proof.Machine.execNalH265Other len header s
  | .nalShort len => Sys2Proof.Machine.execNalShort len s
  | .seiT35 size => Sys2Proof.Machine.execSeiT35 size s
  | .seiOther type size => Sys2Proof.Machine.execSeiOther type size s
  | .t35AtscCc ign7 ign5 count => Sys2Proof.Machine.execT35AtscCc ign7 ign5 count s
  | .t35Rejected bytes => Sys2Proof.Machine.execT35Rejected bytes s
  | .cc608F0 ign d1 d2 => Sys2Proof.Machine.execCc608F0 ign d1 d2 s
  | .cc608F1 ign d1 d2 => Sys2Proof.Machine.execCc608F1 ign d1 d2 s
  | .ccDtvccData ign d1 d2 => Sys2Proof.Machine.execCcDtvccData ign d1 d2 s
  | .ccDtvccStart ign d1 d2 => Sys2Proof.Machine.execCcDtvccStart ign d1 d2 s
  | .ccInvalid ign type d1 d2 => Sys2Proof.Machine.execCcInvalid ign type d1 d2 s
  | .bad608 c1 c2 => Sys2Proof.Machine.execBad608 c1 c2 s
  | .null608 => Sys2Proof.Machine.execNull608 s
  | .dup608 chan low b2 => Sys2Proof.Machine.execDup608 chan low b2 s
  | .pac608 chan rowIdx attr ul => Sys2Proof.Machine.execPac608 chan rowIdx attr ul s
  | .midrow608 chan attr ul => Sys2Proof.Machine.execMidrow608 chan attr ul s
  | .bg608 chan low => Sys2Proof.Machine.execBg608 chan low s
  | .bgBlack608 chan => Sys2Proof.Machine.execBgBlack608 chan s
  | .special608 chan idx => Sys2Proof.Machine.execSpecial608 chan idx s
  | .extended608 chan table idx => Sys2Proof.Machine.execExtended608 chan table idx s
  | .rcl608 chan ign => Sys2Proof.Machine.execRcl608 chan ign s
  | .bs608 chan ign => Sys2Proof.Machine.execBs608 chan ign s
  | .aof608 chan ign => Sys2Proof.Machine.execAof608 chan ign s
  | .aon608 chan ign => Sys2Proof.Machine.execAon608 chan ign s
  | .der608 chan ign => Sys2Proof.Machine.execDer608 chan ign s
  | .ru2608 chan ign => Sys2Proof.Machine.execRu2608 chan ign s
  | .ru3608 chan ign => Sys2Proof.Machine.execRu3608 chan ign s
  | .ru4608 chan ign => Sys2Proof.Machine.execRu4608 chan ign s
  | .fon608 chan ign => Sys2Proof.Machine.execFon608 chan ign s
  | .rdc608 chan ign => Sys2Proof.Machine.execRdc608 chan ign s
  | .tr608 chan ign => Sys2Proof.Machine.execTr608 chan ign s
  | .rtd608 chan ign => Sys2Proof.Machine.execRtd608 chan ign s
  | .edm608 chan ign => Sys2Proof.Machine.execEdm608 chan ign s
  | .cr608 chan ign => Sys2Proof.Machine.execCr608 chan ign s
  | .enm608 chan ign => Sys2Proof.Machine.execEnm608 chan ign s
  | .eoc608 chan ign => Sys2Proof.Machine.execEoc608 chan ign s
  | .unrecognized608 chan low b2 => Sys2Proof.Machine.execUnrecognized608 chan low b2 s
  | .basic608 b1 b2 => Sys2Proof.Machine.execBasic608 b1 b2 s
  | .dtvccPacketStart seq code => Sys2Proof.Machine.execDtvccPacketStart seq code s
  | .dtvccData value => Sys2Proof.Machine.execDtvccData value s
  | .svcHeader svc size => Sys2Proof.Machine.execSvcHeader svc size s
  | .svcExtended size ign svc => Sys2Proof.Machine.execSvcExtended size ign svc s
  | .svcNullOrEmpty svc size => Sys2Proof.Machine.execSvcNullOrEmpty svc size s
  | .c0Nop code => Sys2Proof.Machine.execC0Nop code s
  | .c0Bs => Sys2Proof.Machine.execC0Bs s
  | .c0Ff => Sys2Proof.Machine.execC0Ff s
  | .c0Cr => Sys2Proof.Machine.execC0Cr s
  | .c0Hcr => Sys2Proof.Machine.execC0Hcr s
  | .ext1 => Sys2Proof.Machine.execExt1 s
  | .g0 code => Sys2Proof.Machine.execG0 code s
  | .g0Note => Sys2Proof.Machine.execG0Note s
  | .cwx x => Sys2Proof.Machine.execCwx x s
  | .clw bitmap => Sys2Proof.Machine.execClw bitmap s
  | .dsw bitmap => Sys2Proof.Machine.execDsw bitmap s
  | .hdw bitmap => Sys2Proof.Machine.execHdw bitmap s
  | .tgw bitmap => Sys2Proof.Machine.execTgw bitmap s
  | .dlw bitmap => Sys2Proof.Machine.execDlw bitmap s
  | .dly p1 => Sys2Proof.Machine.execDly p1 s
  | .dlc => Sys2Proof.Machine.execDlc s
  | .rst => Sys2Proof.Machine.execRst s
  | .spa p1 p2 => Sys2Proof.Machine.execSpa p1 p2 s
  | .spc p1 p2 p3 => Sys2Proof.Machine.execSpc p1 p2 p3 s
  | .spl p1 p2 => Sys2Proof.Machine.execSpl p1 p2 s
  | .c1Reserved code => Sys2Proof.Machine.execC1Reserved code s
  | .swa p1 p2 p3 p4 => Sys2Proof.Machine.execSwa p1 p2 p3 p4 s
  | .dfx x p1 p2 p3 p4 p5 p6 => Sys2Proof.Machine.execDfx x p1 p2 p3 p4 p5 p6 s
  | .g1 code => Sys2Proof.Machine.execG1 code s
  | .c2Skip0 x => Sys2Proof.Machine.execC2Skip0 x s
  | .c2Skip1 x p1 => Sys2Proof.Machine.execC2Skip1 x p1 s
  | .c2Skip2 x p1 p2 => Sys2Proof.Machine.execC2Skip2 x p1 p2 s
  | .c2Skip3 x p1 p2 p3 => Sys2Proof.Machine.execC2Skip3 x p1 p2 p3 s
  | .g2 x => Sys2Proof.Machine.execG2 x s
  | .c3Skip4 x p1 p2 p3 p4 => Sys2Proof.Machine.execC3Skip4 x p1 p2 p3 p4 s
  | .c3Skip5 x p1 p2 p3 p4 p5 => Sys2Proof.Machine.execC3Skip5 x p1 p2 p3 p4 p5 s
  | .c3Skip0 x => Sys2Proof.Machine.execC3Skip0 x s
  | .g3 x => Sys2Proof.Machine.execG3 x s

end Sys2Proof.Machine
end

