-- ==== Sys2Proof/Machine/Step.lean ====
section
/-! DEFINITION. One step of the block (log entry 1): run the instruction at the cursor of the active stage, or, where none is
next, make one control transition. -/

namespace Sys2Proof.Machine

/-- The step function. -/
def step (s : State) : Host.Outcome State Fault Refusal :=
  match s.fetchPoint with
  | none => .next s.control
  | some (l, bs) =>
    match decode l bs with
    | .ok (i, n) => exec i (s.advance n)
    | .error e => .next (s.reject e)

/-- `s` with a word of the opcode table placed where `step` fetches its next instruction (log entries 3 and 4). -/
def State.withFetchWord (s : State) (nbits w : Nat) : State := s.placeWord nbits w

end Sys2Proof.Machine
end

