-- ==== Sys2Proof/Safety.lean ====
section
/-! DEFINITION. What a legal state is, in the terms claims use: the legal values of 10_state.md, the canonical byte spaces, the
readers' range (10 R22), and what one step may leave unchanged. -/

namespace Sys2Proof.Machine

/-! ## CEA-608 (10_state.md R27-R29) -/

/-- The buffer each mode writes to (44 R298, R303, R305, R307; reset 10_state.md R28). -/
def Mode608.buf : Mode608 → Buf608
  | .none => .disp
  | .popOn => .nond
  | .paintOn => .disp
  | .rollUp => .disp
  | .text => .text

/-- No row is longer than ROW_CAPACITY_608, where it is bounded (10_state.md R29). -/
def Mem608.Fits (cfg : Params) (m : Mem608) : Prop :=
  ∀ n, cfg.rowCapacity608 = some n → ∀ i : Fin 16, m.rows[i].length ≤ n

/-- A legal 608 channel: the current buffer is that of the mode, the scroll sizes are 0, 2, 3 or 4 and only the displayed memory
has one, which a roll-up mode needs. -/
structure Chan608.Legal (cfg : Params) (c : Chan608) : Prop where
  cur : c.cur = c.mode.buf
  dispScroll : c.disp.scroll ∈ [0, 2, 3, 4]
  nondScroll : c.nond.scroll = 0
  textScroll : c.text.scroll = 0
  rollUp : c.mode = .rollUp → c.disp.scroll ≠ 0
  dispFits : c.disp.Fits cfg
  nondFits : c.nond.Fits cfg
  textFits : c.text.Fits cfg

/-- A legal 608 decoder: fewer than 45 bad frames counted, four legal channels. -/
structure Dec608.Legal (cfg : Params) (d : Dec608) : Prop where
  badFrames : d.badFrames ≤ 44
  chan : ∀ k : Fin 4, d.chan[k].Legal cfg

/-! ## CEA-708 (10_state.md R32-R36) -/

/-- Does the memory of a window hold the position? -/
abbrev Window.Holds (w : Window) (r c : Nat) : Prop := ((w.mem[r]?).bind (·[c]?)).isSome = true

/-- A legal window: 1 to 16 rows, 1 to 64 columns, the pen at row 0 to 15 and column 0 to 64, a memory of W708_ROWS rows of
W708_COLS cells (00_scope.md R8). -/
structure Window.Legal (cfg : Params) (w : Window) : Prop where
  rowCount : 1 ≤ w.rowCount ∧ w.rowCount ≤ 16
  colCount : 1 ≤ w.colCount ∧ w.colCount ≤ 64
  penRow : w.pen.row ≤ 15
  penCol : w.pen.col ≤ 64
  rows : w.mem.length = cfg.w708Rows
  cols : ∀ row ∈ w.mem, row.length = cfg.w708Cols

/-- A legal service: its windows are legal and its current window, if any, is present. -/
structure Service.Legal (cfg : Params) (sv : Service) : Prop where
  win : ∀ (i : Fin 8) (w : Window), sv.win[i] = some w → w.Legal cfg
  current : ∀ x : BitVec 3, sv.current = some x → (sv.win[x.toNat]'x.isLt).isSome = true

/-- A legal builder: bytes are expected exactly while a packet is open, and a packet never exceeds 127 bytes. -/
structure Builder.Legal (b : Builder) : Prop where
  isOpen : b.isOpen = true ↔ b.remaining ≠ 0
  closed : b.isOpen = false → b.bytes = []
  size : b.bytes.length + b.remaining ≤ 127

/-- A legal 708 decoder: services 1 to 63 in rising order, each legal. -/
structure Dec708.Legal (cfg : Params) (d : Dec708) : Prop where
  builder : d.builder.Legal
  rising : d.svc.Pairwise fun p q => p.1.toNat < q.1.toNat
  numbers : ∀ p ∈ d.svc, p.1 ≠ 0
  services : ∀ p ∈ d.svc, p.2.Legal cfg

/-! ## Invariants of the whole state -/

/-- The 608 decoder is legal. -/
def State.Inv608 (s : State) : Prop := s.d608.Legal s.cfg

/-- The 708 decoder is legal, and a block is run for a service other than 0. -/
def State.Inv708 (s : State) : Prop := s.d708.Legal s.cfg ∧ (s.phase = .cmd → s.tx.feed.svc ≠ 0)

/-- Every byte space has its canonical form, the parsed init segment that a failure puts back among them. -/
def State.InvSpaces (s : State) : Prop :=
  s.tx.initSpace.wf = true ∧ s.tx.mediaSpace.wf = true ∧ s.tx.sei.nalbuf.wf = true ∧ s.tx.sei.t35.wf = true ∧
    (∀ m, s.init.parsed = some m → m.wf = true) ∧ ∀ m, s.tx.found.init.parsed = some m → m.wf = true

/-- Extraction is disabled exactly while the bitstream is Unknown (43 R234), and an init context is parsed exactly when it has a
bitstream (R233). -/
structure InitCtx.Agrees (x : InitCtx) (disabled : Bool) : Prop where
  disabled : disabled = true ↔ x.bitstream = .unknown
  parsed : x.parsed = none ↔ x.bitstream = .none

/-- The init context and the disable flag agree, as do those that a failure puts back, and a media pass has a known bitstream. -/
structure State.InvInit (s : State) : Prop where
  now : s.init.Agrees s.disabled
  found : s.tx.found.init.Agrees s.tx.found.disabled
  media : s.phase ≠ .idle → s.tx.pass = .media → s.init.bitstream.codec.isSome = true

/-- The dedup set has no repeats and belongs to the period on record, which a SUBMIT in progress carries (43 R231, R232); with no
SUBMIT in progress there is no transient state (10_state.md R37). -/
structure State.InvDedup (s : State) : Prop where
  nodup : s.dedup.seen.Nodup
  noPeriod : s.dedup.period = none → s.dedup.seen = []
  period : s.phase ≠ .idle → s.dedup.period = some s.tx.perId
  idle : s.phase = .idle → s.tx = .empty

/-- Every cursor stays in its reader's range (10_state.md R22): the box readers, the sub-reader of the box being parsed, the NAL
walk, the SEI and T.35 readers, and the index of a packet. -/
structure State.InvCursors (s : State) : Prop where
  frames : ∀ f ∈ s.tx.frames, f.pos ≤ f.stop ∧ f.stop ≤ s.boxMem.size
  box : s.phase = .boxDispatch →
    s.tx.box.base ≤ s.tx.box.pos ∧ s.tx.box.pos ≤ s.tx.box.stop ∧ ∃ f r, s.tx.frames = f :: r ∧ s.tx.box.stop ≤ f.stop
  walk : s.tx.walk.pos ≤ s.tx.walk.stop ∧ s.tx.walk.stop ≤ s.tx.mediaSpace.size
  sei : s.tx.sei.pos ≤ s.tx.sei.nalbuf.size
  t35 : s.tx.sei.t35Pos ≤ s.tx.sei.t35.size
  pkt : s.tx.feed.pos ≤ s.tx.feed.pkt.length

/-! ## What a claim says is unchanged -/

/-- The two states differ at most in the 608 decoder and in the transaction's cue and event lists. -/
def Same608 (s t : State) : Prop :=
  t = { s with d608 := t.d608, tx := { s.tx with cues := t.tx.cues, events := t.tx.events } }

/-- The two states differ at most in the 708 decoder and in the transaction's cue list. -/
def Same708 (s t : State) : Prop := t = { s with d708 := t.d708, tx := { s.tx with cues := t.tx.cues } }

/-- The two states hold the same record S (10_state.md R20): init context, dedup, disable flag and both decoders. -/
def SameS (s t : State) : Prop :=
  t.init = s.init ∧ t.dedup = s.dedup ∧ t.disabled = s.disabled ∧ t.d608 = s.d608 ∧ t.d708 = s.d708

/-- A 608 channel by its index. -/
def State.chan608 (s : State) (k : BitVec 2) : Chan608 := s.d608.chan[k.toNat]'k.isLt

/-- A window of the service of the block being run. -/
def State.curWindow (s : State) (i : BitVec 3) : Option Window := s.curService.win[i.toNat]'i.isLt

/-- A service by its number. -/
def State.service (s : State) (n : BitVec 6) : Option Service := mapGet n s.d708.svc

/-- What every control pair of classes 2 to 7b leaves (44 R280, R284, R314): no bad frame counted, the field's current channel is
the pair's, the other field's is as before, so is every channel but `k`, and nothing else but cues and events may differ. -/
structure ControlFrame (s t : State) (chan : BitVec 1) : Prop where
  same : Same608 s t
  badFrames : t.d608.badFrames = 0
  curChan : t.d608.curChan = s.d608.curChan.set s.tx.feed.field.toNat chan s.tx.feed.field.isLt
  others : ∀ j, j ≠ chanIndex s.tx.feed.field chan → t.chan608 j = s.chan608 j

/-- What a command of a block leaves (45 R369): the builder and every other service, and nothing outside the 708 decoder and the
cue list may differ. -/
structure ServiceFrame (s t : State) : Prop where
  same : Same708 s t
  builder : t.d708.builder = s.d708.builder
  others : ∀ n, n ≠ s.tx.feed.svc → t.service n = s.service n

/-- What a command on window `x` leaves: as ServiceFrame, and the other windows and the current-window pointer. -/
structure WindowFrame (s t : State) (x : BitVec 3) : Prop where
  service : ServiceFrame s t
  others : ∀ y, y ≠ x → t.curWindow y = s.curWindow y
  current : t.curService.current = s.curService.current

/-- Does the current-window pointer of the block's service name window `x`, which is `w`? -/
def State.IsCurrent (s : State) (x : BitVec 3) (w : Window) : Prop :=
  s.curService.current = some x ∧ s.curWindow x = some w

/-- The cues of acting on selected windows in rising index order. -/
def State.windowCues (s : State) (sel : Nat → Bool) (f : Window → List Cue) : List Cue :=
  (List.finRange 8).flatMap fun i =>
    match s.curService.win[i] with
    | some w => if sel i then f w else []
    | none => []

/-- The cues that a window gives at a pts if it is visible (45 R375-R388). -/
def visibleCues (cfg : Params) (n : BitVec 6) (pts : Rat) (w : Window) : List Cue :=
  if w.visible then (cue708 cfg n w pts).toList else []

/-- The start of a window after it is emitted at a pts, if visible (46 R454): the emission's end where a cue arose. -/
def startAfter (cfg : Params) (n : BitVec 6) (pts : Rat) (w : Window) : Rat :=
  if w.visible && (cue708 cfg n w pts).isSome then pts else w.start

/-- The parity-stripped pair of miscellaneous code `n`, 0x1420 to 0x1D2F (30 R120): what is remembered as the last control pair. -/
def miscPair (chan ign : BitVec 1) (n : Nat) : Pair :=
  BitVec.ofNat 16 (0x1420 + 0x800 * chan.toNat + 0x100 * ign.toNat + n)

/-- A control pair leaves its channel as `c`, and gives these cues and events after those the transaction already has. -/
structure ControlResult (s t : State) (chan : BitVec 1) (c : Chan608) (cues : List Cue) (events : List Event) : Prop where
  frame : ControlFrame s t chan
  chan : t.chan608 (chanIndex s.tx.feed.field chan) = c
  cues : t.tx.cues = s.tx.cues ++ cues
  events : t.tx.events = s.tx.events ++ events

/-- The channel that a control pair remembered as `v` acts on (44 R286). -/
def State.remembered (s : State) (chan : BitVec 1) (v : Pair) : Chan608 :=
  { s.chan608 (chanIndex s.tx.feed.field chan) with lastCP := some v }

/-- A row after glyphs of one style are appended to it, as far as ROW_CAPACITY_608 leaves room (44 R296). -/
def typed (cfg : Params) (style : Style608) (row : List Cell608) (glyphs : List Str) : List Cell608 :=
  let cells := glyphs.map fun g => { glyph := g, style := style }
  row ++ match cfg.rowCapacity608 with
    | none => cells
    | some n => cells.take (n - row.length)

/-- A memory whose current row becomes `row`. -/
def Mem608.withRow (m : Mem608) (row : List Cell608) : Mem608 := { m with rows := m.rows.set m.row row }

/-- P608, 30 R125. -/
def coloursP608 : List Colour608 := [.white, .green, .blue, .cyan, .red, .yellow, .magenta]

/-- A command leaves the current window `x` as `w`, and gives these cues. -/
structure WindowResult (s t : State) (x : BitVec 3) (w : Window) (cues : List Cue) : Prop where
  frame : WindowFrame s t x
  win : t.curWindow x = some w
  cues : t.tx.cues = s.tx.cues ++ cues

/-- `t` has S as the SUBMIT in progress at `s` found it after its period CLEAR (60 R472, R473): the init context and the disable
flag are put back (the model's reading, log entry 10), and the dedup context and the decoders have not changed since. -/
structure LeftAsFound (s t : State) : Prop where
  init : t.init = s.tx.found.init
  disabled : t.disabled = s.tx.found.disabled
  dedup : t.dedup = s.dedup
  d608 : t.d608 = s.d608
  d708 : t.d708 = s.d708

/-- A SUBMIT ends with a BoundsError (43 R255, 60 R472): normally, with that event last, no cue and no timing record, and S as the
SUBMIT found it. That the transient state then has the value `Tx.empty` is the model's choice (log entry 7), and that a completed
init pass of the same SUBMIT is undone its reading (log entry 10). -/
structure EndsInBounds (s t : State) (e : ReadError) : Prop where
  left : LeftAsFound s t
  kept : t.cfg = s.cfg ∧ t.inbox = s.inbox ∧ t.fieldOut = s.fieldOut
  idle : t.phase = .idle ∧ t.tx = .empty
  result : t.outbox = s.outbox ++
    [{ cues := [], timing := [], events := s.tx.events ++ [.boundsError e], abnormal := false }]

/-- The reader of a whole run of bytes, and the same reader at its end. -/
def wholeReader (sp : Space) (bs : List Byte) : Reader :=
  { space := sp, mem := Memory.ofBytes bs, pos := 0, stop := bs.length, little := false }

/-- A decoder reads the whole run of bytes and answers this struct. -/
def ReadsWhole {α : Type} (p : Rd α) (sp : Space) (bs : List Byte) (x : α) : Prop :=
  p (wholeReader sp bs) = .ok (x, { wholeReader sp bs with pos := bs.length })

end Sys2Proof.Machine
end

