-- ==== Sys2Proof/WellFormed.lean ====
section
/-! DEFINITION. Which terms of `Instr` are instructions: the operand values that the encodings of spec/30_encoding.md admit. -/

namespace Sys2Proof

/-- A term is well formed when its encoding is read, in its own language, as that very row of the table (30 R100-R134). -/
def Instr.wf : Instr → Bool
  | .boxSizeLiteral size _ => size != 0 && size != 1
  | .nalH264Sei len _ => decide (1 ≤ len.toNat)
  | .nalH264Other len h => decide (1 ≤ len.toNat) && h.extractLsb' 0 5 != 6#5
  | .nalH265SeiPre len _ _ => decide (2 ≤ len.toNat)
  | .nalH265SeiSuf len _ _ => decide (2 ≤ len.toNat)
  | .nalH265Other len h => decide (2 ≤ len.toNat) && h.extractLsb' 1 6 != 0x27#6 && h.extractLsb' 1 6 != 0x28#6
  | .nalShort len => decide (len.toNat < 2)
  | .seiOther t _ => t != 4
  | .t35Rejected bs => decide (bs.length ≤ 9) && decodeT35 bs == .ok (.t35Rejected bs, bs.length)
  | .bad608 c1 c2 => badPair c1 c2
  | .unrecognized608 chan low b2 => controlInstr (controlPair chan low b2) == .unrecognized608 chan low b2
  | .basic608 b1 b2 => !isControl (pairOf b1 b2) && pairOf b1 b2 != 0
  | .svcHeader svc size => svc != 0 && svc != 7 && size != 0
  | .svcExtended size _ _ => size != 0
  | .svcNullOrEmpty svc size => svc == 0 || size == 0
  | .c0Nop c => decide (c.toNat < 0x20) && c != 0x08 && c != 0x0C && c != 0x0D && c != 0x0E && c != 0x10
  | .g0 c => decide (0x20 ≤ c.toNat) && decide (c.toNat ≤ 0x7E)
  | .c1Reserved c => decide (0x93 ≤ c.toNat) && decide (c.toNat ≤ 0x96)
  | .g1 c => decide (0xA0 ≤ c.toNat)
  | .g2 x => decide (0x20 ≤ x.toNat) && decide (x.toNat ≤ 0x7F)
  | .g3 x => decide (0xA0 ≤ x.toNat)
  | _ => true

end Sys2Proof
end

