-- ==== Sys2Proof/Certificates/Slice0/Obligations.lean ====
section
/-! DEFINITION. The statements for the provers. Where a statement's docstring says "decision D<n>", that clause is one of the
spec's own decisions (spec/92_eei_decisions.md), not a sentence of its source. -/

open Sys2Proof Sys2Proof.Machine

/-! ## Encodings -/

/-- A few words written out from the spec's encodings decode to the instructions they stand for: a box header (30 R101), the type moof
(41 R161), an H.265 NAL (30 R106), an SEI message (R107), a T.35 payload (R108), a triple (R109), a PAC (R114) and a duplicate (R112),
an extended service header (R127), SPA (R131) and a G3 character (R128, R133). -/
def Obligations.WrittenWordsDecode : Prop :=
  decode .boxHeader [0x00, 0x00, 0x00, 0x08, 0x66, 0x72, 0x65, 0x65] = .ok (.boxSizeLiteral 8 0x66726565, 8) ∧
  decode (.boxType .media false) [0x6D, 0x6F, 0x6F, 0x66] = .ok (.boxMoof, 4) ∧
  decode (.nal .h265) [0x00, 0x00, 0x00, 0x10, 0x4E] = .ok (.nalH265SeiPre 16 0 0, 5) ∧
  decode .sei [0xFF, 0xFF, 0x02, 0x01] = .ok (.seiOther 512 1, 4) ∧
  decode .t35 [0xB5, 0x00, 0x31, 0x47, 0x41, 0x39, 0x34, 0x03, 0x41] = .ok (.t35AtscCc 0 0 1, 9) ∧
  decode .triple [0xFC, 0x94, 0x20] = .ok (.cc608F0 0x1F 0x94 0x20, 3) ∧
  decode (.pair none) [0x94, 0xE0] = .ok (.pac608 0 9 0 0, 2) ∧
  decode (.pair (some 0x142C)) [0x94, 0x2C] = .ok (.dup608 0 4 0x2C, 2) ∧
  decode .svc [0xE3, 0x29] = .ok (.svcExtended 3 0 41, 2) ∧
  decode .code [0x90, 0x00, 0xC0] = .ok (.spa 0x00 0xC0, 3) ∧
  decode .codeExt [0x10, 0xA0] = .ok (.g3 0xA0, 2)

/-- DECODE AND ENCODE AGREE, CEA-608: in the language it belongs to, every well-formed pair instruction is decoded back from its
encoding, with every operand at every value; and each two raw bytes have one meaning, of whose bits none is dropped. -/
def Obligations.PairsRoundTrip : Prop :=
  (∀ (i : Instr) (last : Option Pair), i.wf = true → langOf i = .pair last →
    decode (langOf i) (encode i) = .ok (i, (encode i).length)) ∧
  ∀ (last : Option Pair) (c1 c2 : Byte) (i : Instr) (n : Nat),
    decode (.pair last) [c1, c2] = .ok (i, n) → encode i = [c1, c2]

/-- DECODE AND ENCODE AGREE, CEA-708: packet bytes, service block headers, codes and extended codes, whatever bytes follow. -/
def Obligations.RoundTripCodes : Prop :=
  ∀ (i : Instr) (rest : List Byte), i.wf = true →
    langOf i ∈ [Lang.dtvcc true, Lang.dtvcc false, Lang.svc, Lang.code, Lang.codeExt] →
    decode (langOf i) (encode i ++ rest) = .ok (i, (encode i).length)

/-- DECODE AND ENCODE AGREE, the container and the elementary stream, whatever bytes follow: box headers, version words and types, NAL
units, SEI messages of any accumulated type and size, T.35 payloads, cc triples. A rejected T.35 payload is the bytes that its check
reads, at most 9, so a shorter one is followed by nothing; it is well formed exactly where the header of 30 R108 does not stand at its
start, or stands there before a flag byte with bit 6 clear (30 R136). -/
def Obligations.RoundTripBoxesAndStreams : Prop :=
  (∀ (i : Instr) (rest : List Byte), i.wf = true →
    (∀ last, langOf i ≠ .pair last) →
    langOf i ∉ [Lang.dtvcc true, Lang.dtvcc false, Lang.svc, Lang.code, Lang.codeExt] →
    (∀ bs, i = .t35Rejected bs → rest = [] ∨ bs.length = 9) →
    decode (langOf i) (encode i ++ rest) = .ok (i, (encode i).length)) ∧
  ∀ bs : List Byte,
    let header : List Byte := [0xB5, 0x00, 0x31, 0x47, 0x41, 0x39, 0x34, 0x03]
    (Instr.t35Rejected bs).wf = true ↔
      (bs.length ≤ 9 ∧ ¬ header <+: bs) ∨ ∃ flags : Byte, bs = header ++ [flags] ∧ flags.toNat / 64 % 2 = 0

/-- What the decoder answers is well formed and takes no more bytes than it was given, in every language. -/
def Obligations.DecodedAreWellFormed : Prop :=
  ∀ (l : Lang) (bs : List Byte) (i : Instr) (n : Nat), decode l bs = .ok (i, n) → i.wf = true ∧ n ≤ bs.length

/-! ## The step -/

/-- A STEP RUNS THE DECODED INSTRUCTION: where the bytes at the cursor of the active stage decode to an instruction, step is exec
of it after the cursor has passed it. For every stage it is said where the next instruction stands and in which language, how the
cursor passes an instruction of n bytes, and what a step does where none is next or its bytes do not fit: a level of the box walk
ends where its counted boxes are parsed or its range is exhausted (41 R155, R156, R158); the NAL walk where no sample is left, the
length prefix does not fit or the NAL runs past the end (43 R238, R241); the message loop at the end of NALBUF or at a message that
does not fit (43 R246); the triples after cc_count of them (43 R247); the 608 queue gives way to the 708 queue (43 R252); a packet
ends at its length and a block at its declared end (45 R364, R367). Bytes that do not fit in the box walk or in a T.35 payload are a
BoundsError. What one step is, and that a control transition is one, is the model's choice (log entry 1, DESIGN CHOICE); so are an
idle step that waits (log entry 2), the latch of EXT1 in the clauses of cmd (log entry 17), the third pass (log entry 18) and a NAL
walk without a known bitstream (log entry 19); positions in T35 are log entry 9, the end of a failed SUBMIT log entries 7 and 10. -/
def Obligations.StepRunsDecodedInstruction : Prop :=
  ∀ s : State,
    -- the step
    (s.fetchPoint = none → step s = .next s.control) ∧
    (∀ l bs i n, s.fetchPoint = some (l, bs) → decode l bs = .ok (i, n) → step s = exec i (s.advance n)) ∧
    (∀ l bs e, s.fetchPoint = some (l, bs) → decode l bs = .error e → step s = .next (s.reject e)) ∧
    -- where the next instruction stands, and the step where none is next
    (s.phase = .idle → s.fetchPoint = none ∧ (s.inbox = [] → step s = .next s)) ∧
    (s.phase = .boxHeader →
      (s.tx.frames = [] → s.fetchPoint = none ∧
        (s.tx.pass = .fields → step s = .next { s with
          phase := .idle, tx := .empty
          outbox := s.outbox ++
            [{ cues := s.tx.cues, timing := s.tx.timing, events := s.tx.events, abnormal := false }] })) ∧
      ∀ f r, s.tx.frames = f :: r →
        if f.count = some 0 ∨ f.count = none ∧ f.stop ≤ f.pos then step s = .next { s with tx := { s.tx with frames := r } }
        else s.fetchPoint = some (.boxHeader, s.boxMem.slice f.pos (min 16 (f.stop - f.pos)))) ∧
    (s.phase = .boxDispatch →
      if isFull s.tx.pass s.tx.box.type ∧ s.tx.box.version = none then
        s.fetchPoint = some (.boxVf, s.boxMem.slice s.tx.box.pos (min 4 (s.tx.box.stop - s.tx.box.pos)))
      else s.fetchPoint = some (.boxType s.tx.pass (decide (s.tx.box.version = some 1)), wordBytes s.tx.box.type)) ∧
    (∀ (p : Pass) (type : Fourcc), isFull p type = true ↔
      (p, type) ∈ [(Pass.init, (0x73747364 : Fourcc)), (.init, 0x6D766864), (.init, 0x746B6864), (.init, 0x6D646864),
        (.init, 0x74726578), (.media, 0x74666864), (.media, 0x74666474), (.media, 0x7472756E), (.fields, 0x656D7367),
        (.fields, 0x73696478), (.fields, 0x656C7374), (.fields, 0x74656E63), (.fields, 0x70726674)]) ∧
    (s.phase = .nal →
      let w := s.tx.walk
      (s.init.bitstream.codec = none → step s = .next { s with phase := .boxHeader }) ∧
      ∀ c, s.init.bitstream.codec = some c →
        if w.rest = [] ∨ w.stop < w.pos + 4 ∨ w.stop < w.pos + 4 + bigValue (s.tx.mediaSpace.slice w.pos 4) then
          step s = .next { s with phase := .boxHeader }
        else s.fetchPoint = some (.nal c, s.tx.mediaSpace.slice w.pos (min 5 (w.stop - w.pos)))) ∧
    (s.phase = .sei →
      let r := s.tx.sei
      if r.nalbuf.size ≤ r.pos then step s = .next { s with phase := .nal }
      else s.fetchPoint = some (.sei, r.nalbuf.slice r.pos (r.nalbuf.size - r.pos))) ∧
    (s.phase = .t35 →
      s.fetchPoint = some (.t35, s.tx.sei.t35.slice s.tx.sei.t35Pos (min 9 (s.tx.sei.t35.size - s.tx.sei.t35Pos)))) ∧
    (s.phase = .cc →
      if s.tx.sei.triples = 0 then step s = .next { s with phase := .sei }
      else s.fetchPoint = some (.triple, s.tx.sei.t35.slice s.tx.sei.t35Pos (min 3 (s.tx.sei.t35.size - s.tx.sei.t35Pos)))) ∧
    (s.phase = .dec608 →
      (s.tx.q608 = [] → step s = .next { s with phase := .dec708 }) ∧
      ∀ p r, s.tx.q608 = p :: r → s.fetchPoint =
        some (.pair (s.chan608 (chanIndex p.field (p.b1.extractLsb' 3 1))).lastCP, [p.b1, p.b2])) ∧
    (s.phase = .dec708 →
      (s.tx.q708 = [] → s.fetchPoint = none) ∧
      ∀ b r, s.tx.q708 = b :: r → s.fetchPoint = some (.dtvcc b.start, [b.value])) ∧
    (s.phase = .svc →
      if s.tx.feed.pkt.length ≤ s.tx.feed.pos then step s = .next { s with phase := .dec708 }
      else s.fetchPoint = some (.svc, ((s.tx.feed.pkt.drop s.tx.feed.pos).take 2).map Prod.fst)) ∧
    (s.phase = .cmd →
      (∀ i, s.tx.feed.ext = some i → s.fetchPoint = some (.codeExt, ((s.tx.feed.pkt.drop i).take 7).map Prod.fst)) ∧
      (s.tx.feed.ext = none →
        if s.tx.feed.blockEnd ≤ s.tx.feed.pos then step s = .next { s with phase := .svc }
        else s.fetchPoint = some (.code, ((s.tx.feed.pkt.drop s.tx.feed.pos).take 7).map Prod.fst))) ∧
    -- bytes that do not fit (those of a packet: BlocksAreEnteredOrSkipped)
    (∀ k n : Nat,
      let failed (space : Space) (pos : Nat) : Prop :=
        EndsInBounds s (s.reject (.truncated k n)) { space := space, pos := pos + k, n := n, reason := .pastEnd }
      (∀ f r, s.phase = .boxHeader → s.tx.frames = f :: r → failed (passSpace s.tx.pass) f.pos) ∧
      (s.phase = .boxDispatch → failed (passSpace s.tx.pass) s.tx.box.pos) ∧
      (s.phase = .nal → s.reject (.truncated k n) = { s with phase := .boxHeader }) ∧
      (s.phase = .sei → s.reject (.truncated k n) = { s with phase := .nal }) ∧
      (s.phase ∈ [Phase.t35, .cc] → failed .t35 s.tx.sei.t35Pos)) ∧
    -- how the cursor passes an instruction
    ∀ n : Nat,
      (∀ f r, s.phase = .boxHeader → s.tx.frames = f :: r →
        s.advance n =
          { s with
            tx := { s.tx with frames := { f with pos := f.pos + n } :: r, box := { s.tx.box with start := f.pos } } }) ∧
      (s.phase = .boxDispatch →
        s.advance n =
          if isFull s.tx.pass s.tx.box.type ∧ s.tx.box.version = none then
            { s with tx := { s.tx with box := { s.tx.box with pos := s.tx.box.pos + n } } }
          else s) ∧
      (s.phase = .nal → s.advance n = s) ∧
      (s.phase = .sei → s.advance n = { s with tx := { s.tx with sei := { s.tx.sei with pos := s.tx.sei.pos + n } } }) ∧
      (s.phase = .t35 → s.advance n = { s with tx := { s.tx with sei := { s.tx.sei with t35Pos := s.tx.sei.t35Pos + n } } }) ∧
      (s.phase = .cc →
        s.advance n =
          { s with
            tx := { s.tx with
              sei := { s.tx.sei with t35Pos := s.tx.sei.t35Pos + n, triples := s.tx.sei.triples - 1 } } }) ∧
      (∀ p r, s.phase = .dec608 → s.tx.q608 = p :: r →
        s.advance n = { s with tx := { s.tx with q608 := r, feed := { s.tx.feed with pts := p.pts, field := p.field } } }) ∧
      (∀ b r, s.phase = .dec708 → s.tx.q708 = b :: r →
        s.advance n = { s with tx := { s.tx with q708 := r, feed := { s.tx.feed with pts := b.pts } } }) ∧
      (s.phase = .svc → s.advance n = { s with tx := { s.tx with feed := { s.tx.feed with pos := s.tx.feed.pos + n } } }) ∧
      (∀ b p, s.phase = .cmd → s.tx.feed.pkt[s.tx.feed.ext.getD s.tx.feed.pos]? = some (b, p) →
        s.advance n =
          { s with
            tx := { s.tx with
              feed := { s.tx.feed with pts := p, pos := s.tx.feed.ext.getD s.tx.feed.pos + n, ext := none } } })

/-- No encoding of any input language traps, and no state stops the block: every step has a next state. -/
def Obligations.EveryStepHasANextState : Prop := ∀ s : State, ∃ t, step s = .next t

/-- No step writes the configuration (10_state.md R21), and each stage writes only its own part of the state: parsing a segment, from
the box walk to the triples, writes no decoder and no dedup entry; decoding pairs writes nothing of the 708 decoder, decoding packets
and codes nothing of the 608 decoder. The init context and the disable flag change only at the start of a transaction, at the end of
the init pass (the box walk with no level left), and where a failure puts them back (60 R472; the model's reading, log entry 10); what
it puts back does not change while the SUBMIT runs. The stages are the model's (log entry 1). -/
def Obligations.StagesOwnTheirState : Prop :=
  ∀ s t : State, step s = .next t → t.cfg = s.cfg ∧
    (s.phase ∈ [Phase.boxHeader, .boxDispatch, .nal, .sei, .t35, .cc] →
      t.d608 = s.d608 ∧ t.d708 = s.d708 ∧ t.dedup = s.dedup) ∧
    (s.phase ∈ [Phase.nal, .sei, .dec608, .dec708, .svc, .cmd] → t.init = s.init ∧ t.disabled = s.disabled) ∧
    (s.phase ∈ [Phase.boxDispatch, .t35, .cc] ∨ (s.phase = .boxHeader ∧ (s.tx.frames ≠ [] ∨ s.tx.pass ≠ .init)) →
      (t.init = s.init ∧ t.disabled = s.disabled) ∨ (t.phase = .idle ∧ LeftAsFound s t)) ∧
    (s.phase ≠ .idle → t.phase ≠ .idle → t.tx.found = s.tx.found) ∧
    (s.phase = .dec608 → t.d708 = s.d708) ∧
    (s.phase ∈ [Phase.dec708, .svc, .cmd] → t.d608 = s.d608)

/-! ## Invariants that every step keeps -/

/-- The 608 decoder stays legal: fewer than 45 bad frames counted, each channel's current buffer that of its mode, scroll sizes
0, 2, 3 or 4, rows within ROW_CAPACITY_608. -/
def Obligations.LegalCea608IsKept : Prop := ∀ s t : State, s.Inv608 → step s = .next t → t.Inv608

/-- The 708 decoder stays legal: the builder expects bytes exactly while open and never more than 127, services are 1 to 63, a
current window is present, windows have 1 to 16 rows and 1 to 64 columns and a memory of W708_ROWS by W708_COLS (00_scope.md R8),
pens stay in range. -/
def Obligations.LegalCea708IsKept : Prop := ∀ s t : State, s.Inv708 → step s = .next t → t.Inv708

/-- Every byte space keeps its canonical form: a size and the cells that differ from 0x00, in rising address order. The form is the
model's choice (log entry 8, DESIGN CHOICE); that no step writes a space otherwise is 20 R70, R71. -/
def Obligations.CanonicalSpacesAreKept : Prop := ∀ s t : State, s.InvSpaces → step s = .next t → t.InvSpaces

/-- Extraction stays disabled exactly while the bitstream is Unknown, an init context has a bitstream exactly when one is parsed,
and a media pass runs only with a known bitstream. The same holds of the init context and the flag that a failure puts back (log
entry 10). -/
def Obligations.DisableFlagFollowsBitstream : Prop := ∀ s t : State, s.InvInit → step s = .next t → t.InvInit

/-- The dedup set stays without repeats and belongs to the period on record, which a SUBMIT in progress carries; between two
transactions there is no transient state (10_state.md R37). That the set is a list without repeats, and that the absent transient
state is the value `Tx.empty`, are the model's choices (log entries 22 and 7, DESIGN CHOICE). -/
def Obligations.DedupAndIdleAreKept : Prop := ∀ s t : State, s.InvDedup → step s = .next t → t.InvDedup

/-- Every cursor stays in its reader's range. -/
def Obligations.CursorsStayInRange : Prop := ∀ s t : State, s.InvCursors → step s = .next t → t.InvCursors

/-- All the invariants hold after reset. What they say of the transient state there rests on the values that the model chose for it
(log entry 7), and the form of its byte spaces is the model's (log entry 8), both DESIGN CHOICE. -/
def Obligations.ResetMeetsInvariants : Prop :=
  State.reset.Inv608 ∧ State.reset.Inv708 ∧ State.reset.InvSpaces ∧ State.reset.InvInit ∧ State.reset.InvDedup ∧
    State.reset.InvCursors

/-! ## Reset, transactions and errors -/

/-- After construction the block has the values of 70 R503 and waits; a CLEAR transaction brings S back to them, with no cue, no
timing record and no event (70 R500, R501; the values are decisions D21, D23, D28, D36, D57, D58). That a CLEAR taken from the inbox
appends a result with three empty lists, not abnormal, is the model's choice (log entries 2 and 21, DESIGN CHOICE). -/
def Obligations.ResetAndClear : Prop :=
  (State.reset.phase = .idle ∧
    State.reset.init = { parsed := none, timescale := [], movieTimescale := none, trex := [], bitstream := .none } ∧
    State.reset.dedup = { period := none, seen := [] } ∧ State.reset.disabled = false ∧
    State.reset.d608.badFrames = 0 ∧ (∀ f : Fin 2, State.reset.d608.curChan[f] = 0) ∧
    (∀ k : BitVec 2,
      (State.reset.chan608 k).mode = .none ∧ (State.reset.chan608 k).cur = .disp ∧ (State.reset.chan608 k).prevEndTime = 0 ∧
      (State.reset.chan608 k).lastCP = none ∧
      ∀ b : Buf608, (∀ i : Fin 16, ((State.reset.chan608 k).mem b).rows[i] = []) ∧ ((State.reset.chan608 k).mem b).row = 15 ∧
        ((State.reset.chan608 k).mem b).scroll = 0 ∧
        ((State.reset.chan608 k).mem b).style = { ul := false, it := false, fg := .white, bg := .black }) ∧
    State.reset.d708.builder = { isOpen := false, remaining := 0, bytes := [] } ∧ State.reset.d708.svc = []) ∧
  ∀ (s : State) (r : List Transaction), s.phase = .idle → s.inbox = .clear :: r →
    ∃ t, step s = .next t ∧ SameS State.reset t ∧ t.inbox = r ∧ t.cfg = s.cfg ∧
      t.outbox = s.outbox ++ [{ cues := [], timing := [], events := [], abnormal := false }]

/-- The first step of a SUBMIT, by what the block finds (43 R230 steps 1 to 5; decisions D57, D58): another period clears the
state and records the period; a segment already seen ends with DUPLICATE_SEGMENT; an init segment not parsed yet starts the
init pass; a disabled track ends with EXTRACTION_DISABLED; else the media pass starts. A pass that starts walks all the bytes
submitted for it (20 R70), with accumulators, slots, queues and lists empty (41 R159, 43 R235), and what S then holds is kept for a
failure (60 R472; log entry 10). The inbox, the results and that this is one step are the model's choices (log entries 2, 21 and 1,
DESIGN CHOICE), as are the registers of the stages that have not begun (log entry 7). -/
def Obligations.SubmitStartsByCase : Prop :=
  ∀ (s : State) (init media : List Byte) (seg per : Str) (r : List Transaction),
    s.phase = .idle → s.inbox = .submit init media seg per :: r →
    ∃ t, step s = .next t ∧ t.inbox = r ∧ t.cfg = s.cfg ∧
      let started (p : Pass) (bytes : List Byte) : Prop :=
        t.phase = .boxHeader ∧ t.outbox = s.outbox ∧
        t.tx = { Tx.empty with
          initSpace := Memory.ofBytes init, mediaSpace := Memory.ofBytes media, segId := seg, perId := per, pass := p
          frames := [{ pos := 0, stop := bytes.length, count := none, trak := none, encv := none }]
          acc := { firstEntry := none, codec := none, pairs := [], encvs := [], movieTimescale := none, trex := [] }
          slots := { moofStart := none, tfhd := none, tfdt := none, truns := [], timed := false }
          order := 0, q608 := [], q708 := [], packets := [], cues := [], timing := [], events := []
          found := { init := t.init, disabled := t.disabled } }
      (s.dedup.period ≠ some per →
        t.init = InitCtx.reset ∧ t.disabled = false ∧ t.d608 = Dec608.reset ∧ t.d708 = Dec708.reset ∧
        t.dedup = { period := some per, seen := [] } ∧ started .init init) ∧
      (s.dedup.period = some per →
        SameS s t ∧
        (seg ∈ s.dedup.seen → t.phase = .idle ∧
          t.outbox = s.outbox ++ [{ cues := [], timing := [], events := [.duplicateSegment seg], abnormal := false }]) ∧
        (seg ∉ s.dedup.seen → s.init.parsed ≠ some (Memory.ofBytes init) → started .init init) ∧
        (seg ∉ s.dedup.seen → s.init.parsed = some (Memory.ofBytes init) → s.disabled = true →
          t.phase = .idle ∧
          t.outbox = s.outbox ++ [{ cues := [], timing := [], events := [.extractionDisabled], abnormal := false }]) ∧
        (seg ∉ s.dedup.seen → s.init.parsed = some (Memory.ofBytes init) → s.disabled = false → started .media media))

/-- When the init pass completes, S.init is replaced whole and the disable flag follows the codec (43 R233, R234; decision D58):
with no codec the transaction ends with UNKNOWN_BITSTREAM and EXTRACTION_DISABLED, with one the media pass starts, over all of MEDIA,
with accumulators, slots and queues empty (41 R159, 43 R235) and the rest of the transaction kept. Neither the decoders nor the dedup
set change. That the end of the pass is one step is log entry 1, which entry the event's info names log entries 14
and 38, the empty transient
state after the transaction and the empty box context log entry 7. -/
def Obligations.InitPassCompletes : Prop :=
  ∀ s : State, s.phase = .boxHeader → s.tx.frames = [] → s.tx.pass = .init →
    ∃ t, step s = .next t ∧
      t.init.parsed = some s.tx.initSpace ∧ t.init.movieTimescale = s.tx.acc.movieTimescale ∧ t.init.trex = s.tx.acc.trex ∧
      (∀ id : Word, mapGet id t.init.timescale =
        (s.tx.acc.pairs.filterMap fun p => if p.1 = some id then p.2 else none).getLast?) ∧
      (s.tx.acc.codec = none → t.init.bitstream = .unknown ∧
        t = { s with
          phase := .idle, init := t.init, disabled := true, tx := .empty
          outbox := s.outbox ++
            [{ cues := s.tx.cues, timing := s.tx.timing,
               events := s.tx.events ++ [.unknownBitstream s.tx.acc.firstEntry, .extractionDisabled], abnormal := false }] }) ∧
      (∀ c, s.tx.acc.codec = some c → t.init.bitstream.codec = some c ∧
        t = { s with
          phase := .boxHeader, init := t.init, disabled := false
          tx := { s.tx with
            pass := .media
            frames := [{ pos := 0, stop := s.tx.mediaSpace.size, count := none, trak := none, encv := none }]
            box := .empty
            acc := { firstEntry := none, codec := none, pairs := [], encvs := [], movieTimescale := none, trex := [] }
            slots := { moofStart := none, tfhd := none, tfdt := none, truns := [], timed := false }
            order := 0, q608 := [], q708 := [], packets := [] } })

/-- When the media pass completes, each queue is put in the order of (pts, arrival) with no packet lost or added (43 R252; decision
D63), and decoding begins; nothing else changes, so the timing records stay in the order of their moofs (R253). That the end of the
pass is a step of its own is the model's choice (log entry 1). -/
def Obligations.QueuesAreSorted : Prop :=
  ∀ s : State, s.phase = .boxHeader → s.tx.frames = [] → s.tx.pass = .media →
    ∃ t, step s = .next t ∧ t = { s with phase := .dec608, tx := { s.tx with q608 := t.tx.q608, q708 := t.tx.q708 } } ∧
      t.tx.q608.Perm s.tx.q608 ∧ t.tx.q608.Pairwise (fun a b => a.pts < b.pts ∨ (a.pts = b.pts ∧ a.order ≤ b.order)) ∧
      t.tx.q708.Perm s.tx.q708 ∧ t.tx.q708.Pairwise (fun a b => a.pts < b.pts ∨ (a.pts = b.pts ∧ a.order ≤ b.order))

/-- A segment completes when both queues are drained: its id joins the dedup set, its outputs are returned, and the decoders keep
what the decode step left. That completion is a step of its own, and the form of the result, are the model's choices (log entries 1
and 21). -/
def Obligations.CompletionRecordsSegment : Prop :=
  ∀ s : State, s.phase = .dec708 → s.tx.q708 = [] →
    ∃ t, step s = .next t ∧ t.phase = .idle ∧ t.d608 = s.d608 ∧ t.d708 = s.d708 ∧ t.init = s.init ∧ t.disabled = s.disabled ∧
      t.dedup.period = s.dedup.period ∧ (∀ x, x ∈ t.dedup.seen ↔ x = s.tx.segId ∨ x ∈ s.dedup.seen) ∧
      t.outbox = s.outbox ++ [{ cues := s.tx.cues, timing := s.tx.timing, events := s.tx.events, abnormal := false }]

/-- A BoundsError ends the segment and nothing else (43 R255, 60 R472; decision D20): S is as the SUBMIT found it, and the transaction
ends normally with BOUNDS_ERROR as its last event, no cue and no timing record. So it is where a box header does not fit in its level
(41 R151: one shorter than 4 bytes fails at the size, one shorter than 8 at the type, one of size 1 shorter than 16 at the largesize),
where a FULL box has no room for its version and flags word (41 R153), where a T.35 payload that passes its checks has no flag byte
(43 R247), and where a triple misses a byte, at that byte (43 R248). The space, position and length of a short T.35 payload or triple
are log entry 9 (DEDUCED); that a completed init pass of the same SUBMIT is undone is log entry 10 (DEDUCED); the empty transient
state is log entry 7 (DESIGN CHOICE). Reads of a box's fields: the statements of those boxes. -/
def Obligations.ShortReadsEndTheSegment : Prop :=
  ∀ (s : State),
    (∀ (f : Frame) (r : List Frame) (bs : List Byte),
      s.phase = .boxHeader → s.tx.frames = f :: r → s.fetchPoint = some (.boxHeader, bs) →
      (bs.length < 8 → ∃ t, step s = .next t ∧
        EndsInBounds s t
          { space := passSpace s.tx.pass, pos := if bs.length < 4 then f.pos else f.pos + 4, n := 4, reason := .pastEnd }) ∧
      (bs.take 4 = [0, 0, 0, 1] → 8 ≤ bs.length → bs.length < 16 → ∃ t, step s = .next t ∧
        EndsInBounds s t { space := passSpace s.tx.pass, pos := f.pos + 8, n := 8, reason := .pastEnd })) ∧
    (∀ bs : List Byte, s.phase = .boxDispatch → s.fetchPoint = some (.boxVf, bs) → bs.length < 4 →
      ∃ t, step s = .next t ∧
        EndsInBounds s t { space := passSpace s.tx.pass, pos := s.tx.box.pos, n := 4, reason := .pastEnd }) ∧
    (s.phase = .t35 → s.fetchPoint = some (.t35, [0xB5, 0x00, 0x31, 0x47, 0x41, 0x39, 0x34, 0x03]) →
      ∃ t, step s = .next t ∧
        EndsInBounds s t { space := .t35, pos := s.tx.sei.t35Pos + 8, n := 1, reason := .pastEnd }) ∧
    (∀ bs : List Byte, s.phase = .cc → s.fetchPoint = some (.triple, bs) → bs.length < 3 →
      ∃ t, step s = .next t ∧
        EndsInBounds s t { space := .t35, pos := s.tx.sei.t35Pos + bs.length, n := 1, reason := .pastEnd })

/-- A StructuralError is propagated (43 R236, 60 R473; decisions D59, D80): at an mdat after a moof, a missing tfhd, or a track
with no timescale or timescale 0, ends the transaction abnormally with that event last, no cue and no timing record, and S is as the
SUBMIT found it (60 R472; that a completed init pass of the same SUBMIT is undone is log entry 10, DEDUCED). The ten status events
have the codes 1 to 10 (60 R471; decision D60). -/
def Obligations.StructuralErrorPropagates : Prop :=
  (∀ (e : ReadError) (what : Missing) (id : Option Word) (a b : Str) (f : Option Fourcc) (k : BitVec 2) (m n i : Nat) (sv : BitVec 6),
    [Event.boundsError e, .structuralError what id, .contractViolation a, .unknownBitstream f, .extractionDisabled,
      .duplicateSegment b, .textModeUnsupported k, .badFrameReset, .dtvccPacketDropped m n, .dtvccOverrun sv i].map Event.code =
      [1, 2, 3, 4, 5, 6, 7, 8, 9, 10]) ∧
  ∀ (s : State) (moof : Nat), s.tx.slots.moofStart = some moof →
    (s.tx.slots.tfhd = none → ∃ t, exec .boxMdat s = .next t ∧ LeftAsFound s t ∧ t.phase = .idle ∧
      t.outbox = s.outbox ++
        [{ cues := [], timing := [], events := s.tx.events ++ [.structuralError .tfhd none], abnormal := true }]) ∧
    (∀ h, s.tx.slots.tfhd = some h →
      (mapGet h.trackId s.init.timescale = none ∨ mapGet h.trackId s.init.timescale = some 0) →
      ∃ t, exec .boxMdat s = .next t ∧ LeftAsFound s t ∧ t.phase = .idle ∧
        t.outbox = s.outbox ++
          [{ cues := [], timing := [], events := s.tx.events ++ [.structuralError .timescale (some h.trackId)], abnormal := true }])

/-! ## Boxes -/

/-- A header's size is resolved and its box clamped (41 R151, R152): a size word other than 0 and 1 literally, 0 to the rest of
the enclosing range, 1 to the largesize, which under SAFE64_GUARD stays below 2^53 (20 R75). A size of at least the header's opens the
box, from the byte after the header to its end or the enclosing range's, whichever is first. The first box parsed in a counted level,
that is as an entry of an stsd, is noted for UNKNOWN_BITSTREAM's info (60 R471; which entry is the first is log entry 14, DEDUCED, and
that a box below its header is none log entry 38, DESIGN CHOICE). -/
def Obligations.HeaderOpensBox : Prop :=
  ∀ (s : State) (f : Frame) (r : List Frame) (i : Instr) (type : Fourcc) (size : Nat),
    s.tx.frames = f :: r → f.pos - s.tx.box.start ≤ size →
    (i = .boxSizeLiteral (BitVec.ofNat 32 size) type ∧ size < 2 ^ 32 ∨
      i = .boxSizeRest type ∧ size = f.stop - s.tx.box.start ∨
      i = .boxLargesize type (BitVec.ofNat 64 size) ∧ size < 2 ^ 64 ∧ (s.cfg.safe64Guard = true → size < 2 ^ 53)) →
    ∃ t, exec i s = .next t ∧ SameS s t ∧ t.phase = .boxDispatch ∧
      t.tx.box.start = s.tx.box.start ∧ t.tx.box.size = size ∧ t.tx.box.type = type ∧ t.tx.box.base = f.pos ∧
      t.tx.box.pos = f.pos ∧ t.tx.box.stop = min (s.tx.box.start + size) f.stop ∧ t.tx.box.version = none ∧
      t.tx.box.flags = none ∧ t.tx.frames = { f with count := f.count.map (· - 1) } :: r ∧
      t.tx = { s.tx with frames := t.tx.frames, box := t.tx.box, acc := t.tx.acc } ∧
      t.tx.acc = { s.tx.acc with
        firstEntry := if f.count.isSome ∧ s.tx.acc.firstEntry = none then some type else s.tx.acc.firstEntry } ∧
      t.outbox = s.outbox

/-- A size below its own header moves the cursor of its level to the level's end, with no event at that box (41 R151; decision D7),
be it a literal size or a largesize below its 16 bytes; and a largesize whose high word exceeds 0x1FFFFF fails under the guard (20
R75; decision D4). Such a box still counts as an entry of an stsd, so an stsd that is owed more entries then fails at its next
header: that reading is the model's (log entry 29, DEDUCED). That its type is not noted as the first sample entry of
UNKNOWN_BITSTREAM's info, the accumulators being unchanged, is the model's choice (log entry 38, DESIGN CHOICE). What the failure
leaves is log entries 7 and 10. -/
def Obligations.HeaderEndsLevelOrFails : Prop :=
  ∀ (s : State) (f : Frame) (r : List Frame) (type : Fourcc),
    s.tx.frames = f :: r →
    let ended : State :=
      { s with
        phase := .boxHeader
        tx := { s.tx with frames := { f with pos := f.stop, count := f.count.map (· - 1) } :: r } }
    (∀ size : Word, size.toNat < f.pos - s.tx.box.start → exec (.boxSizeLiteral size type) s = .next ended) ∧
    (∀ large : BitVec 64, large.toNat < f.pos - s.tx.box.start → (s.cfg.safe64Guard = true → large.toNat < 2 ^ 53) →
      exec (.boxLargesize type large) s = .next ended) ∧
    (∀ n : Nat, f.count = some (n + 2) → ∃ t, step ended = .next t ∧
      EndsInBounds ended t { space := passSpace s.tx.pass, pos := f.stop, n := 4, reason := .pastEnd }) ∧
    (∀ large : BitVec 64, s.cfg.safe64Guard = true → 0x1FFFFF < (large.extractLsb' 32 32).toNat →
      ∃ t, exec (.boxLargesize type large) s = .next t ∧
        EndsInBounds s t { space := passSpace s.tx.pass, pos := s.tx.box.start + 8, n := 8, reason := .guard64 })

/-- Boxes whose handlers read no payload (41 R153, R154, R156): the version and flags word is kept for the handler; an unregistered
box is skipped to its end; a container is walked, as a new level over its payload inside the enclosing slots, while the enclosing
cursor goes to the box's end. trak also opens a pairing slot (42 R184), and moof records its start and empties the other slots
(43 R235). That a nested trak has a slot of its own is log entry 12 (DEDUCED), and that a moof begins without its timing record
(`timed`) log entry 11. -/
def Obligations.BoxesAreSkippedOrWalked : Prop :=
  ∀ (s : State) (f : Frame) (r : List Frame), s.tx.frames = f :: r →
    (∀ v fl, exec (.boxFullVf v fl) s =
      .next { s with tx := { s.tx with box := { s.tx.box with version := some v, flags := some fl } } }) ∧
    (∀ type, exec (.boxUnregistered type) s =
      .next { s with phase := .boxHeader, tx := { s.tx with frames := { f with pos := s.tx.box.stop } :: r } }) ∧
    (∀ i ∈ [Instr.boxMoov, .boxMdia, .boxMinf, .boxStbl, .boxMvex, .boxSinf, .boxTraf],
      exec i s = .next { s with
        phase := .boxHeader
        tx := { s.tx with
          frames := { pos := s.tx.box.pos, stop := s.tx.box.stop, count := none, trak := f.trak, encv := f.encv } ::
            { f with pos := s.tx.box.stop } :: r } }) ∧
    exec .boxTrak s = .next { s with
      phase := .boxHeader
      tx := { s.tx with
        acc := { s.tx.acc with pairs := s.tx.acc.pairs ++ [(none, none)] }
        frames := { pos := s.tx.box.pos, stop := s.tx.box.stop, count := none, trak := some s.tx.acc.pairs.length,
                    encv := f.encv } ::
          { f with pos := s.tx.box.stop } :: r } } ∧
    exec .boxMoof s = .next { s with
      phase := .boxHeader
      tx := { s.tx with
        slots := { moofStart := some s.tx.box.start, tfhd := none, tfdt := none, truns := [], timed := false }
        frames := { pos := s.tx.box.pos, stop := s.tx.box.stop, count := none, trak := f.trak, encv := f.encv } ::
          { f with pos := s.tx.box.stop } :: r } }

/-- stsd parses as many boxes as its count says (41 R158); a visual sample entry skips its 78-byte header and walks on (41 R157),
and the first one whose type maps sets the codec (41 R162; decisions D10, D73), which encv leaves to the first frma inside it: one
that names none of the four types sets none. Another frma has no effect (log entry 13, DEDUCED). A short entry or header ends the
segment (what that leaves is log entries 7 and 10). -/
def Obligations.SampleEntriesSetCodec : Prop :=
  ∀ (s : State) (f : Frame) (r : List Frame), s.tx.frames = f :: r →
    (s.tx.box.pos + 4 ≤ s.tx.box.stop → ∃ t, exec .boxStsd s = .next t ∧
      t = { s with
        phase := .boxHeader
        tx := { s.tx with
          frames := { pos := s.tx.box.pos + 4, stop := s.tx.box.stop,
                      count := some (BitVec.ofNat 32 (bigValue (s.boxMem.slice s.tx.box.pos 4))).toNat,
                      trak := f.trak, encv := f.encv } ::
            { f with pos := s.tx.box.stop } :: r } }) ∧
    (s.tx.box.pos + 78 ≤ s.tx.box.stop →
      ∀ p ∈ [(Instr.boxAvc1, Codec.h264), (.boxAvc3, .h264), (.boxHvc1, .h265), (.boxHev1, .h265)],
        exec p.1 s = .next { s with
          phase := .boxHeader
          tx := { s.tx with
            acc := { s.tx.acc with codec := s.tx.acc.codec.or (some p.2) }
            frames := { pos := s.tx.box.pos + 78, stop := s.tx.box.stop, count := none, trak := f.trak, encv := f.encv } ::
              { f with pos := s.tx.box.stop } :: r } }) ∧
    (s.tx.box.pos + 78 ≤ s.tx.box.stop →
      exec .boxEncv s = .next { s with
        phase := .boxHeader
        tx := { s.tx with
          acc := { s.tx.acc with encvs := s.tx.acc.encvs ++ [false] }
          frames := { pos := s.tx.box.pos + 78, stop := s.tx.box.stop, count := none, trak := f.trak,
                      encv := some s.tx.acc.encvs.length } ::
            { f with pos := s.tx.box.stop } :: r } }) ∧
    (s.tx.box.pos + 4 ≤ s.tx.box.stop → ∀ k, f.encv = some k → s.tx.acc.encvs[k]? = some false →
      ∃ t, exec .boxFrma s = .next t ∧ t.tx.acc.encvs = s.tx.acc.encvs.set k true ∧
        (s.boxMem.slice s.tx.box.pos 4 ∈ [[0x61, 0x76, 0x63, 0x31], [0x61, 0x76, 0x63, 0x33]] →
          t.tx.acc.codec = s.tx.acc.codec.or (some .h264)) ∧
        (s.boxMem.slice s.tx.box.pos 4 ∈ [[0x68, 0x76, 0x63, 0x31], [0x68, 0x65, 0x76, 0x31]] →
          t.tx.acc.codec = s.tx.acc.codec.or (some .h265)) ∧
        (s.boxMem.slice s.tx.box.pos 4 ∉
            [[0x61, 0x76, 0x63, 0x31], [0x61, 0x76, 0x63, 0x33], [0x68, 0x76, 0x63, 0x31], [0x68, 0x65, 0x76, 0x31]] →
          t.tx.acc.codec = s.tx.acc.codec) ∧
        t = { s with
          phase := .boxHeader
          tx := { s.tx with
            acc := { s.tx.acc with codec := t.tx.acc.codec, encvs := t.tx.acc.encvs }
            frames := { f with pos := s.tx.box.stop } :: r } }) ∧
    (s.tx.box.pos + 4 ≤ s.tx.box.stop → (∀ k, f.encv = some k → s.tx.acc.encvs[k]? ≠ some false) →
      exec .boxFrma s = .next { s with
        phase := .boxHeader, tx := { s.tx with frames := { f with pos := s.tx.box.stop } :: r } }) ∧
    (s.tx.box.stop < s.tx.box.pos + 4 → ∀ i ∈ [Instr.boxStsd, .boxFrma], ∃ t, exec i s = .next t ∧
      EndsInBounds s t { space := passSpace s.tx.pass, pos := s.tx.box.pos, n := 4, reason := .pastEnd }) ∧
    (s.tx.box.stop < s.tx.box.pos + 78 → ∀ i ∈ [Instr.boxAvc1, .boxAvc3, .boxHvc1, .boxHev1, .boxEncv],
      ∃ t, exec i s = .next t ∧
        EndsInBounds s t { space := passSpace s.tx.pass, pos := s.tx.box.pos, n := 78, reason := .pastEnd })

/-- mvhd, tkhd and mdhd skip 16 bytes of times in version 1 and 8 in every other version, and read one 32-bit field (42 R181-R183):
the movie timescale, and the first track ID and the first timescale of the enclosing trak (42 R184; decision D76). Outside a trak
the field is not kept (log entry 12); a short box ends the segment (what that leaves is log entries 7 and 10). -/
def Obligations.HeaderBoxesReadOneField : Prop :=
  ∀ (s : State) (f : Frame) (r : List Frame) (skipped : Nat), s.tx.frames = f :: r →
    skipped = (if s.tx.box.version = some 1 then 16 else 8) →
    let field : Word := BitVec.ofNat 32 (bigValue (s.boxMem.slice (s.tx.box.pos + skipped) 4))
    let done (acc : InitAcc) : State :=
      { s with phase := .boxHeader, tx := { s.tx with acc := acc, frames := { f with pos := s.tx.box.stop } :: r } }
    (s.tx.box.pos + skipped + 4 ≤ s.tx.box.stop →
      exec .boxMvhd s = .next (done { s.tx.acc with movieTimescale := some field }) ∧
      (∀ k a b, f.trak = some k → s.tx.acc.pairs[k]? = some (a, b) →
        exec .boxTkhd s = .next (done { s.tx.acc with pairs := s.tx.acc.pairs.set k (a.or (some field), b) }) ∧
        exec .boxMdhd s = .next (done { s.tx.acc with pairs := s.tx.acc.pairs.set k (a, b.or (some field)) })) ∧
      (f.trak = none → exec .boxTkhd s = .next (done s.tx.acc) ∧ exec .boxMdhd s = .next (done s.tx.acc))) ∧
    (∀ i ∈ [Instr.boxMvhd, .boxTkhd, .boxMdhd],
      (s.tx.box.stop < s.tx.box.pos + skipped → ∃ t, exec i s = .next t ∧
        EndsInBounds s t { space := passSpace s.tx.pass, pos := s.tx.box.pos, n := skipped, reason := .pastEnd }) ∧
      (s.tx.box.pos + skipped ≤ s.tx.box.stop → s.tx.box.stop < s.tx.box.pos + skipped + 4 → ∃ t, exec i s = .next t ∧
        EndsInBounds s t { space := passSpace s.tx.pass, pos := s.tx.box.pos + skipped, n := 4, reason := .pastEnd }))

/-- A field decoder reads through the box's sub-reader (41 R153): where it succeeds, its struct goes to the slot the pass gives it
(42 R185-R187, R191; 43 R235) and nothing else changes; where a read fails, the segment ends with that BoundsError, and that a
completed init pass of the same SUBMIT is then undone is log entry 10 (DEDUCED), the empty transient state log entry 7. -/
def Obligations.FieldBoxesStoreTheirStruct : Prop :=
  ∀ (s : State) (f : Frame) (r : List Frame), s.tx.frames = f :: r →
    let done (acc : InitAcc) (slots : Slots) : State :=
      { s with
        phase := .boxHeader
        tx := { s.tx with acc := acc, slots := slots, frames := { f with pos := s.tx.box.stop } :: r } }
    (∀ id d q, readTrex s.boxReader = .ok ((id, d), q) →
      ∃ t, exec .boxTrex s = .next t ∧ t = done { s.tx.acc with trex := t.tx.acc.trex } s.tx.slots ∧
        ∀ k, mapGet k t.tx.acc.trex = if k = id then some d else mapGet k s.tx.acc.trex) ∧
    (∀ h q, readTfhd s.cfg.safe64Guard s.tx.box s.boxReader = .ok (h, q) →
      exec .boxTfhd s = .next (done s.tx.acc { s.tx.slots with tfhd := some h })) ∧
    (∀ d q, readTfdt s.cfg.safe64Guard s.tx.box s.boxReader = .ok (d, q) →
      exec .boxTfdt s = .next (done s.tx.acc { s.tx.slots with tfdt := some d })) ∧
    (∀ x q, readTrun s.tx.box s.boxReader = .ok (x, q) →
      exec .boxTrun s = .next (done s.tx.acc { s.tx.slots with truns := s.tx.slots.truns ++ [x] })) ∧
    (∀ e, readTrex s.boxReader = .error e → ∃ t, exec .boxTrex s = .next t ∧ EndsInBounds s t e) ∧
    (∀ e, readTfhd s.cfg.safe64Guard s.tx.box s.boxReader = .error e → ∃ t, exec .boxTfhd s = .next t ∧ EndsInBounds s t e) ∧
    (∀ e, readTfdt s.cfg.safe64Guard s.tx.box s.boxReader = .error e → ∃ t, exec .boxTfdt s = .next t ∧ EndsInBounds s t e) ∧
    (∀ e, readTrun s.tx.box s.boxReader = .error e → ∃ t, exec .boxTrun s = .next t ∧ EndsInBounds s t e)

/-- The decoder-only boxes return their struct and write nothing else (42 R188, R189, R200-R204; decision D12; log entry 18 says
where the struct goes, log entries 7 and 10 what a failed read leaves). -/
def Obligations.DecoderOnlyBoxesReturnTheirStruct : Prop :=
  ∀ (s : State) (f : Frame) (r : List Frame), s.tx.frames = f :: r →
    let done (x : FieldRecord) : State :=
      { s with
        phase := .boxHeader, fieldOut := s.fieldOut ++ [x]
        tx := { s.tx with frames := { f with pos := s.tx.box.stop } :: r } }
    (∀ e q, readEmsgV0 s.boxReader = .ok (e, q) → exec .boxEmsg s = .next (done (.emsg e))) ∧
    (∀ e q, readEmsgV1 s.cfg.safe64Guard s.boxReader = .ok (e, q) → exec .boxEmsgV1 s = .next (done (.emsg e))) ∧
    (∀ x q, readSidx s.cfg.safe64Guard s.tx.box s.boxReader = .ok (x, q) → exec .boxSidx s = .next (done (.sidx x))) ∧
    (∀ x q, readElst s.cfg.safe64Guard s.tx.box s.boxReader = .ok (x, q) → exec .boxElst s = .next (done (.elst x))) ∧
    (∀ x q, readTenc s.tx.box s.boxReader = .ok (x, q) → exec .boxTenc s = .next (done (.tenc x))) ∧
    (∀ x q, readPrft s.cfg.safe64Guard s.tx.box s.boxReader = .ok (x, q) → exec .boxPrft s = .next (done (.prft x))) ∧
    (∀ e, readEmsgV0 s.boxReader = .error e → ∃ t, exec .boxEmsg s = .next t ∧ EndsInBounds s t e) ∧
    (∀ e, readEmsgV1 s.cfg.safe64Guard s.boxReader = .error e → ∃ t, exec .boxEmsgV1 s = .next t ∧ EndsInBounds s t e) ∧
    (∀ e, readSidx s.cfg.safe64Guard s.tx.box s.boxReader = .error e → ∃ t, exec .boxSidx s = .next t ∧ EndsInBounds s t e) ∧
    (∀ e, readElst s.cfg.safe64Guard s.tx.box s.boxReader = .error e → ∃ t, exec .boxElst s = .next t ∧ EndsInBounds s t e) ∧
    (∀ e, readTenc s.tx.box s.boxReader = .error e → ∃ t, exec .boxTenc s = .next t ∧ EndsInBounds s t e) ∧
    (∀ e, readPrft s.cfg.safe64Guard s.tx.box s.boxReader = .error e → ∃ t, exec .boxPrft s = .next t ∧ EndsInBounds s t e)

/-- `MemRead` and `readUint` (20 R72, R73): a read that fits gives its bytes in address order, or their value in the reader's byte
order, and passes them; one that does not fit raises BoundsError with the cursor and the length. Every reader of the block is
big-endian. A 64-bit read (R75; decision D4) whose high word exceeds 0x1FFFFF raises BoundsError under the guard, and gives its full
value without; the signed read takes the same high word and extends the sign. -/
def Obligations.ReadsAreBoundedAndOrdered : Prop :=
  (∀ (bs : List Byte) (sp : Space) (pos stop n : Nat) (little : Bool), stop ≤ bs.length →
    let r : Reader := { space := sp, mem := Memory.ofBytes bs, pos := pos, stop := stop, little := little }
    let byte (i : Nat) : Nat := (bs[pos + i]?.map (·.toNat)).getD 0
    let value (k : Nat) : Nat := ((List.range k).map fun i => byte i * 256 ^ (if little then i else k - 1 - i)).sum
    (pos + n ≤ stop →
      memRead n r = .ok ((bs.drop pos).take n, { r with pos := pos + n }) ∧
      readUint n r = .ok (value n, { r with pos := pos + n })) ∧
    (stop < pos + n →
      memRead n r = .error { space := sp, pos := pos, n := n, reason := .pastEnd } ∧
      readUint n r = .error { space := sp, pos := pos, n := n, reason := .pastEnd }) ∧
    ∀ guard : Bool,
      let failed (reason : BoundsReason) : Prop :=
        readU64 guard r = .error { space := sp, pos := pos, n := 8, reason := reason } ∧
        readI64 guard r = .error { space := sp, pos := pos, n := 8, reason := reason }
      (stop < pos + 8 → failed .pastEnd) ∧
      (pos + 8 ≤ stop → guard = true → 0x1FFFFF < value 8 / 2 ^ 32 → failed .guard64) ∧
      (pos + 8 ≤ stop → (guard = true → value 8 / 2 ^ 32 ≤ 0x1FFFFF) →
        readU64 guard r = .ok (value 8, { r with pos := pos + 8 }) ∧
        readI64 guard r = .ok ((BitVec.ofNat 64 (value 8)).toInt, { r with pos := pos + 8 }))) ∧
  ∀ s : State, s.boxReader.little = false

/-- trun (42 R186): under any flags and either version, from the bytes of its fields in order, the sample count, the data offset and
the arrays are recovered exactly and in order; skipped fields leave no trace. -/
def Obligations.TrunRecoversItsArrays : Prop :=
  ∀ (l : List (Word × Word × Word × Word)) (b : BoxCtx) (sp : Space) (v : Byte) (flags : BitVec 24) (off first : Word),
    l.length < 2 ^ 32 → b.version = some v → b.flags = some flags →
    let flagged (mask : BitVec 24) (w : Word) : List Byte := if flags &&& mask = 0 then [] else wordBytes w
    let field {α : Type} (mask : BitVec 24) (x : α) : Option α := if flags &&& mask = 0 then none else some x
    ReadsWhole (readTrun b) sp
      (wordBytes (BitVec.ofNat 32 l.length) ++ flagged 0x001 off ++ flagged 0x004 first ++
        l.flatMap fun x => flagged 0x100 x.1 ++ flagged 0x200 x.2.1 ++ flagged 0x400 x.2.2.1 ++ flagged 0x800 x.2.2.2)
      { sampleCount := l.length, dataOffset := field 0x001 off.toInt,
        samples := l.map fun x =>
          { dur := field 0x100 x.1, size := field 0x200 x.2.1,
            cto := field 0x800 (if v = 0 then (x.2.2.2.toNat : Int) else x.2.2.2.toInt) } }

/-- The fields of the other boxes are read at their places, big-endian, the optional ones exactly where their flag is set (42 R185,
R187-R189, R191, R200-R203): trex, tfhd under any flags, tfdt, prft, elst and sidx in the version-1 layout in version 1 and in the
version-0 layout in every other (R180; decision D75), tenc in every version with and without its constant IV, emsg in both layouts with
ASCII strings. Under SAFE64_GUARD a 64-bit field of 2^53 or more fails at its place (20 R75), without it the full value is read. That
tenc has its crypt and skip counts in every version other than 0, and that sidx and prft follow R180 where their own rules say
"otherwise", is log entry 28 (DEDUCED). -/
def Obligations.FieldsAreReadAtTheirPlaces : Prop :=
  ∀ (sp : Space) (b : BoxCtx) (guard : Bool) (flags : BitVec 24) (a w x y z v : Word) (q q2 : BitVec 64),
    b.flags = some flags →
    let passes (n : BitVec 64) : Prop := guard = true → n.toNat < 2 ^ 53
    let flagged (mask : BitVec 24) (bs : List Byte) : List Byte := if flags &&& mask = 0 then [] else bs
    let field (mask : BitVec 24) (n : Word) : Option Word := if flags &&& mask = 0 then none else some n
    let ref : SidxRef :=
      { referenceType := z.extractLsb' 31 1, referencedSize := z.extractLsb' 0 31, subsegmentDuration := v,
        startsWithSap := w.extractLsb' 31 1, sapType := w.extractLsb' 28 3, sapDeltaTime := w.extractLsb' 0 28 }
    ReadsWhole readTrex sp (wordBytes a ++ wordBytes w ++ wordBytes x ++ wordBytes y ++ wordBytes z) (a, { dur := x, size := y }) ∧
    (flags &&& 0x01 = 0 ∨ passes q →
      ReadsWhole (readTfhd guard b) sp
        (wordBytes a ++ flagged 0x01 (longBytes q) ++ flagged 0x02 (wordBytes w) ++ flagged 0x08 (wordBytes x) ++
          flagged 0x10 (wordBytes y) ++ flagged 0x20 (wordBytes z))
        { trackId := a, baseDataOffset := if flags &&& 0x01 = 0 then none else some q.toNat,
          sampleDescriptionIndex := field 0x02 w, defaultSampleDuration := field 0x08 x, defaultSampleSize := field 0x10 y,
          defaultSampleFlags := field 0x20 z }) ∧
    (b.version ≠ some 1 →
      ReadsWhole (readTfdt guard b) sp (wordBytes a) a.toNat ∧
      ReadsWhole (readPrft guard b) sp (wordBytes a ++ wordBytes w ++ wordBytes x ++ wordBytes y)
        { referenceTrackId := a, ntpSeconds := w, ntpFraction := x, mediaTime := y.toNat } ∧
      ReadsWhole (readElst guard b) sp (wordBytes 1 ++ wordBytes w ++ wordBytes x ++ wordBytes y)
        [{ segmentDuration := w.toNat, mediaTime := x.toInt, mediaRateInteger := (y.extractLsb' 16 16).toInt,
           mediaRateFraction := (y.extractLsb' 0 16).toInt }] ∧
      ReadsWhole (readSidx guard b) sp
        (wordBytes a ++ wordBytes w ++ wordBytes x ++ wordBytes y ++ wordBytes 1 ++ wordBytes z ++ wordBytes v ++ wordBytes w)
        { referenceId := a, timescale := w, earliestPresentationTime := x.toNat, firstOffset := y.toNat, references := [ref] }) ∧
    (b.version = some 1 → passes q →
      ReadsWhole (readTfdt guard b) sp (longBytes q) q.toNat ∧
      ReadsWhole (readPrft guard b) sp (wordBytes a ++ wordBytes w ++ wordBytes x ++ longBytes q)
        { referenceTrackId := a, ntpSeconds := w, ntpFraction := x, mediaTime := q.toNat } ∧
      (passes q2 →
        ReadsWhole (readElst guard b) sp (wordBytes 1 ++ longBytes q ++ longBytes q2 ++ wordBytes y)
          [{ segmentDuration := q.toNat, mediaTime := q2.toInt, mediaRateInteger := (y.extractLsb' 16 16).toInt,
             mediaRateFraction := (y.extractLsb' 0 16).toInt }] ∧
        ReadsWhole (readSidx guard b) sp
          (wordBytes a ++ wordBytes w ++ longBytes q ++ longBytes q2 ++ wordBytes 1 ++ wordBytes z ++ wordBytes v ++ wordBytes w)
          { referenceId := a, timescale := w, earliestPresentationTime := q.toNat, firstOffset := q2.toNat,
            references := [ref] })) ∧
    (guard = true → 2 ^ 53 ≤ q.toNat → ∀ rest : List Byte,
      let fails {α : Type} (p : Rd α) (before : List Byte) : Prop :=
        p (wholeReader sp (before ++ longBytes q ++ rest)) =
          .error { space := sp, pos := before.length, n := 8, reason := .guard64 }
      (flags &&& 0x01 ≠ 0 → fails (readTfhd guard b) (wordBytes a)) ∧ fails (readEmsgV1 guard) (wordBytes a) ∧
      (b.version = some 1 →
        fails (readTfdt guard b) [] ∧ fails (readPrft guard b) (wordBytes a ++ wordBytes w ++ wordBytes x) ∧
        fails (readElst guard b) (wordBytes 1) ∧ fails (readSidx guard b) (wordBytes a ++ wordBytes w) ∧
        (passes q2 →
          fails (readElst guard b) (wordBytes 1 ++ longBytes q2) ∧
          fails (readSidx guard b) (wordBytes a ++ wordBytes w ++ longBytes q2)))) ∧
    (∀ (ver r0 c prot ivSize : Byte) (kid iv : List Byte), b.version = some ver → kid.length = 16 → iv.length < 256 →
      let constant : Prop := prot = 1 ∧ ivSize = 0
      ReadsWhole (readTenc b) sp
        ([r0, c, prot, ivSize] ++ kid ++ if constant then BitVec.ofNat 8 iv.length :: iv else [])
        { cryptByteBlock := if ver = 0 then none else some (BitVec.ofNat 4 (c.toNat / 16)),
          skipByteBlock := if ver = 0 then none else some (BitVec.ofNat 4 (c.toNat % 16)),
          isProtected := prot, perSampleIvSize := ivSize, kid := kid, constantIv := if constant then some iv else none }) ∧
    ∀ scheme value rest : List Byte, (∀ c ∈ scheme ++ value, 1 ≤ c.toNat ∧ c.toNat ≤ 0x7F) →
      let ascii (bs : List Byte) : Str := bs.map fun c => Char.ofNat c.toNat
      ReadsWhole readEmsgV0 sp
        (scheme ++ [0] ++ value ++ [0] ++ wordBytes a ++ wordBytes w ++ wordBytes x ++ wordBytes y ++ rest)
        { schemeIdUri := ascii scheme, value := ascii value, timescale := a, presentation := w.toNat, eventDuration := x, id := y,
          messageData := rest } ∧
      (passes q → ReadsWhole (readEmsgV1 guard) sp
        (wordBytes a ++ longBytes q ++ wordBytes x ++ wordBytes y ++ scheme ++ [0] ++ value ++ [0] ++ rest)
        { schemeIdUri := ascii scheme, value := ascii value, timescale := a, presentation := q.toNat, eventDuration := x, id := y,
          messageData := rest })

/-- A walk starts at an mdat of a complete fragment (43 R236, R237, 42 R193-R195; decisions D11, D13, D65, D72, D77): the payload
range is recorded, a moof with a tfdt gets its one timing record in milliseconds at its first mdat and none at a later one, and where
the samples are not empty and the data start lies in the payload, the NAL walk begins there. The fragment has as many samples as its truns count; each takes its size and duration from
the concatenated trun lists, else from the tfhd's default, else from the track's trex, else 0, and past the lists the trun term is
absent. An mdat before any moof, or with its data start outside, is not scanned. That the record is formed at an mdat and the field
`timed` remembers it are log entry 11 (DEDUCED). -/
def Obligations.MdatStartsWalk : Prop :=
  ∀ (s : State) (f : Frame) (r : List Frame), s.tx.frames = f :: r → s.tx.box.base ≤ s.tx.box.stop →
    let left : Tx := { s.tx with
      mdat := { start := s.tx.box.base, length := s.tx.box.stop - s.tx.box.base }
      frames := { f with pos := s.tx.box.stop } :: r }
    (s.tx.slots.moofStart = none → exec .boxMdat s = .next { s with phase := .boxHeader, tx := left }) ∧
    (∀ (moof : Nat) (h : Tfhd) (ts : Word) (d : Int), s.tx.slots.moofStart = some moof → s.tx.slots.tfhd = some h →
      mapGet h.trackId s.init.timescale = some ts → ts ≠ 0 →
      d = moof + ((s.tx.slots.truns.head?.bind (·.dataOffset)).getD 0) - s.tx.box.base →
      let samples := fragmentSamples h (mapGet h.trackId s.init.trex) s.tx.slots.truns
      samples.length = (s.tx.slots.truns.map (·.sampleCount)).sum ∧
      (∀ (i : Nat) (x : Sample), samples[i]? = some x →
        let trun : TrunSample := ((s.tx.slots.truns.flatMap (·.samples))[i]?).getD { dur := none, size := none, cto := none }
        let trex := mapGet h.trackId s.init.trex
        let pick : Option Word → Option Word → Option Word → Nat
          | some n, _, _ => n.toNat
          | none, some n, _ => n.toNat
          | none, none, some n => n.toNat
          | none, none, none => 0
        x.size = pick trun.size h.defaultSampleSize (trex.map (·.size)) ∧
        x.dur = pick trun.dur h.defaultSampleDuration (trex.map (·.dur)) ∧ x.cto = trun.cto.getD 0) ∧
      let timing := s.tx.timing ++
        match (if s.tx.slots.timed then none else s.tx.slots.tfdt) with
        | some bmdt => [{ decodeTime := ((1000 * bmdt : Nat) : Rat) / (ts.toNat : Rat),
                          duration := ((1000 * (samples.map (·.dur)).sum : Nat) : Rat) / (ts.toNat : Rat) }]
        | none => []
      let slots := { s.tx.slots with timed := s.tx.slots.timed || s.tx.slots.tfdt.isSome }
      (samples ≠ [] → 0 ≤ d → d ≤ (s.tx.box.stop : Int) - s.tx.box.base →
        exec .boxMdat s = .next { s with
          phase := .nal
          tx := { left with
            timing := timing
            slots := slots
            walk := { pos := s.tx.box.base + d.toNat, stop := s.tx.box.stop, rest := samples,
                      time := s.tx.slots.tfdt.getD 0, used := 0, ts := ts.toNat } } }) ∧
      (samples = [] ∨ d < 0 ∨ (s.tx.box.stop : Int) - s.tx.box.base < d →
        exec .boxMdat s = .next { s with phase := .boxHeader, tx := { left with timing := timing, slots := slots } }))

/-! ## NAL units, SEI messages, triples -/

/-- An SEI NAL's payload after its header bytes is de-escaped into NALBUF, carries the NAL's pts, and its message loop runs (43
R239, R243, R245; decisions D15, D90). Any other NAL, and one shorter than its header, is skipped by its length (R240, R241;
decision D81). Either way the walk passes the 4-byte length and the NAL: the cursor goes on by that many bytes, and they join the used
bytes from which the sample advance crosses samples (R238, R242). A negative pts is kept (R243; log entry 36). -/
def Obligations.NalsAreScannedOrSkipped : Prop :=
  ∀ (s : State) (len : Word) (ign : BitVec 3) (b7 b0 : BitVec 1),
    let w := s.tx.walk
    let pts : Rat := (((w.time : Int) + (w.rest.head?.map (·.cto)).getD 0 : Int) : Rat) / (w.ts : Rat)
    let crossed := crossSamples w.rest (w.used + 4 + len.toNat) w.time
    let passed : NalWalk :=
      { w with pos := w.pos + 4 + len.toNat, rest := crossed.1, used := crossed.2.1, time := crossed.2.2 }
    (∀ p ∈ [(Instr.nalH264Sei len ign, 1), (.nalH265SeiPre len b7 b0, 2), (.nalH265SeiSuf len b7 b0, 2)],
      exec p.1 s = .next { s with
        phase := .sei
        tx := { s.tx with
          walk := passed
          sei := { s.tx.sei with
            nalbuf := Memory.ofBytes (epbRemove 0 (s.tx.mediaSpace.slice (w.pos + 4 + p.2) (len.toNat - p.2))), pos := 0,
            pts := pts } } }) ∧
    (∀ h : Byte, ∀ i ∈ [Instr.nalH264Other len h, .nalH265Other len h, .nalShort len],
      exec i s = .next { s with tx := { s.tx with walk := passed } })

/-- Sample advance (43 R242): the samples crossed are a first part of those left, their sizes account for all the used bytes but
the remainder, their durations for all the time, and it stops at a sample the remainder does not reach. -/
def Obligations.SamplesAdvanceBySize : Prop :=
  ∀ (rest : List Sample) (used time : Nat),
    ∃ crossed, rest = crossed ++ (crossSamples rest used time).1 ∧
      used = (crossed.map (·.size)).sum + (crossSamples rest used time).2.1 ∧
      (crossSamples rest used time).2.2 = time + (crossed.map (·.dur)).sum ∧
      ∀ x r, (crossSamples rest used time).1 = x :: r → (crossSamples rest used time).2.1 < x.size

/-- Emulation prevention (43 R244; decision D16): bytes with no 00 00 03 in them are unchanged, and after such bytes that end in
00 00 a 03 is dropped and the count of zeros starts again. -/
def Obligations.EmulationPreventionIsRemoved : Prop :=
  (∀ p : List Byte, ¬ [0x00, 0x00, 0x03] <:+: p → epbRemove 0 p = p) ∧
  ∀ a b : List Byte, ¬ [0x00, 0x00, 0x03] <:+: a ++ [0x00, 0x00] →
    epbRemove 0 (a ++ [0x00, 0x00, 0x03] ++ b) = a ++ [0x00, 0x00] ++ epbRemove 0 b

/-- SEI messages and T.35 payloads (43 R246, R247; decisions D17, D19): a type-4 message hands its payload, clamped to the bytes
left, to the T.35 check, and another type is skipped by the same number; an ATSC payload skips its reserved byte and gives
`cc_count` triples, or ends the segment where that byte is missing; any other payload is ignored whole. A payload is an ATSC one
exactly where the eight header bytes stand at its start before a flag byte with bit 6 set, whose low 5 bits are `cc_count` (30 R108):
one that is shorter, fails a check or has bit 6 clear is ignored (30 R136). The space and the position of the failed read are log
entry 9 (DEDUCED), what the failure leaves log entries 7 and 10. -/
def Obligations.MessagesAndPayloads : Prop :=
  ∀ s : State,
    (∀ n : Nat, exec (.seiT35 n) s = .next { s with
      phase := .t35
      tx := { s.tx with
        sei := { s.tx.sei with
          t35 := Memory.ofBytes (s.tx.sei.nalbuf.slice s.tx.sei.pos (min n (s.tx.sei.nalbuf.size - s.tx.sei.pos)))
          t35Pos := 0, pos := s.tx.sei.pos + min n (s.tx.sei.nalbuf.size - s.tx.sei.pos) } } }) ∧
    (∀ type n : Nat, exec (.seiOther type n) s = .next { s with
      tx := { s.tx with
        sei := { s.tx.sei with pos := s.tx.sei.pos + min n (s.tx.sei.nalbuf.size - s.tx.sei.pos) } } }) ∧
    (∀ (a b : BitVec 1) (n : BitVec 5),
      (s.tx.sei.t35Pos < s.tx.sei.t35.size → exec (.t35AtscCc a b n) s = .next { s with
        phase := .cc
        tx := { s.tx with sei := { s.tx.sei with t35Pos := s.tx.sei.t35Pos + 1, triples := n.toNat } } }) ∧
      (s.tx.sei.t35.size ≤ s.tx.sei.t35Pos → ∃ t, exec (.t35AtscCc a b n) s = .next t ∧
        EndsInBounds s t { space := .t35, pos := s.tx.sei.t35Pos, n := 1, reason := .pastEnd })) ∧
    (∀ bs, exec (.t35Rejected bs) s = .next { s with phase := .sei }) ∧
    let header : List Byte := [0xB5, 0x00, 0x31, 0x47, 0x41, 0x39, 0x34, 0x03]
    (∀ bs : List Byte, ¬ header <+: bs → decode .t35 bs = .ok (.t35Rejected (bs.take 9), min 9 bs.length)) ∧
    ∀ (flags : Byte) (r : List Byte), decode .t35 (header ++ flags :: r) =
      if flags.toNat / 64 % 2 = 1 then
        .ok (.t35AtscCc (BitVec.ofNat 1 (flags.toNat / 128)) (BitVec.ofNat 1 (flags.toNat / 32))
          (BitVec.ofNat 5 (flags.toNat % 32)), 9)
      else .ok (.t35Rejected (header ++ [flags]), 9)

/-- cc triples (43 R249-R251; decisions D18, D64): under scheme CEA608 the types 0 and 1 queue one pair with its field, under CEA708
the types 2 and 3 queue two bytes of which only the first can start a packet; each entry carries the NAL's pts and the next
arrival number. Any other triple is consumed and changes nothing. -/
def Obligations.TriplesAreQueuedByScheme : Prop :=
  ∀ (s : State) (ign : BitVec 5) (d1 d2 : Byte),
    (s.cfg.scheme = .cea608 →
      (∀ p ∈ [(Instr.cc608F0 ign d1 d2, (0 : BitVec 1)), (.cc608F1 ign d1 d2, 1)],
        exec p.1 s = .next { s with
          tx := { s.tx with
            q608 := s.tx.q608 ++ [{ pts := s.tx.sei.pts, field := p.2, b1 := d1, b2 := d2, order := s.tx.order }]
            order := s.tx.order + 1 } }) ∧
      ∀ i ∈ [Instr.ccDtvccData ign d1 d2, .ccDtvccStart ign d1 d2], exec i s = .next s) ∧
    (s.cfg.scheme = .cea708 →
      (∀ p ∈ [(Instr.ccDtvccData ign d1 d2, false), (.ccDtvccStart ign d1 d2, true)],
        exec p.1 s = .next { s with
          tx := { s.tx with
            q708 := s.tx.q708 ++
              [{ pts := s.tx.sei.pts, start := p.2, value := d1, order := s.tx.order },
               { pts := s.tx.sei.pts, start := false, value := d2, order := s.tx.order + 1 }]
            order := s.tx.order + 2 } }) ∧
      ∀ i ∈ [Instr.cc608F0 ign d1 d2, .cc608F1 ign d1 d2], exec i s = .next s) ∧
    ∀ type, exec (.ccInvalid ign type d1 d2) s = .next s

/-! ## CEA-608 -/

/-- Codes and pairs without an effect on the memories (44 R281-R283, R286, R294, R300-R302, R304; decisions D21-D25, D32, D82): the
accepted and the unrecognized codes only are remembered, a duplicate is suppressed and forgotten, a null pair only clears the
bad-frame count, and a bad frame is counted, the 45th in a row resetting the 608 decoder. -/
def Obligations.PairsWithoutAnEffect : Prop :=
  ∀ s : State,
    (∀ chan ign : BitVec 1,
      ∀ p ∈ [(Instr.aof608 chan ign, 2), (.aon608 chan ign, 3), (.der608 chan ign, 4), (.fon608 chan ign, 8)],
        ∃ t, exec p.1 s = .next t ∧ ControlResult s t chan (s.remembered chan (miscPair chan ign p.2)) [] []) ∧
    (∀ (chan : BitVec 1) (low : BitVec 3) (b2 : BitVec 7), ∃ t, exec (.unrecognized608 chan low b2) s = .next t ∧
      ControlResult s t chan
        (s.remembered chan (BitVec.ofNat 16 (0x1000 + 0x800 * chan.toNat + 0x100 * low.toNat + b2.toNat))) [] []) ∧
    (∀ (chan : BitVec 1) (low : BitVec 3) (b2 : BitVec 7), ∃ t, exec (.dup608 chan low b2) s = .next t ∧
      ControlResult s t chan { s.chan608 (chanIndex s.tx.feed.field chan) with lastCP := none } [] []) ∧
    exec .null608 s = .next { s with d608 := { s.d608 with badFrames := 0 } } ∧
    ∀ c1 c2 : Byte,
      (s.d608.badFrames < 44 →
        exec (.bad608 c1 c2) s = .next { s with d608 := { s.d608 with badFrames := s.d608.badFrames + 1 } }) ∧
      (s.d608.badFrames = 44 →
        exec (.bad608 c1 c2) s =
          .next { s with
            d608 := { badFrames := 0, curChan := Vector.replicate 2 0, chan := Vector.replicate 4 .reset }
            tx := { s.tx with events := s.tx.events ++ [.badFrameReset] } })

/-- The codes that only choose a mode (44 R298, R305-R307, R310, R313; decisions D21-D24, D27): RCL goes to the non-displayed memory,
RDC to the displayed one and records the next caption's start, TR and RTD to the text sink, logged once for each entry, and ENM
blanks the non-displayed memory. None emits a cue. -/
def Obligations.QuietModeCodes : Prop :=
  ∀ (s : State) (chan ign : BitVec 1),
    let c (n : Nat) : Chan608 := s.remembered chan (miscPair chan ign n)
    let logged : List Event :=
      if (c 0).mode = .text then [] else [.textModeUnsupported (chanIndex s.tx.feed.field chan)]
    (∃ t, exec (.rcl608 chan ign) s = .next t ∧
      ControlResult s t chan { c 0 with mode := .popOn, cur := .nond, nond := { (c 0).nond with scroll := 0 } } [] []) ∧
    (∃ t, exec (.rdc608 chan ign) s = .next t ∧
      ControlResult s t chan
        { c 9 with
          mode := .paintOn, cur := .disp, disp := { (c 9).disp with scroll := 0 }, prevEndTime := s.tx.feed.pts } [] []) ∧
    (∃ t, exec (.tr608 chan ign) s = .next t ∧
      ControlResult s t chan
        { c 10 with mode := .text, cur := .text, text := { (c 10).text with rows := Vector.replicate 16 [] } } [] logged) ∧
    (∃ t, exec (.rtd608 chan ign) s = .next t ∧
      ControlResult s t chan { c 11 with mode := .text, cur := .text } [] logged) ∧
    (∃ t, exec (.enm608 chan ign) s = .next t ∧
      ControlResult s t chan { c 14 with nond := { (c 14).nond with rows := Vector.replicate 16 [] } } [] [])

/-- RU2, RU3, RU4 (44 R303; decisions D21-D24, D84): from RollUp or Text only the mode, the buffer and the scroll size change; from
another mode the displayed memory is emitted from prevEndTime to the pts, both memories are blanked, and the row is 15. -/
def Obligations.RollUpStarts : Prop :=
  ∀ (s : State) (chan ign : BitVec 1),
    ∀ p ∈ [(Instr.ru2608 chan ign, 5, 2), (.ru3608 chan ign, 6, 3), (.ru4608 chan ign, 7, 4)],
      let c : Chan608 := s.remembered chan (miscPair chan ign p.2.1)
      ∃ t, exec p.1 s = .next t ∧
        (c.mode = .rollUp ∨ c.mode = .text →
          ControlResult s t chan { c with mode := .rollUp, cur := .disp, disp := { c.disp with scroll := p.2.2 } } [] []) ∧
        (c.mode ≠ .rollUp → c.mode ≠ .text →
          ControlResult s t chan
            { c with
              mode := .rollUp, cur := .disp
              disp := { c.disp with rows := Vector.replicate 16 [], row := 15, scroll := p.2.2 }
              nond := { c.nond with rows := Vector.replicate 16 [] } }
            (cue608 s.cfg (chanIndex s.tx.feed.field chan) c.disp c.prevEndTime s.tx.feed.pts).toList [])

/-- EDM and EOC (44 R308, R311, R312; decisions D21-D24): except in Text mode the displayed memory is emitted from prevEndTime to the
pts; then EDM blanks it, and EOC exchanges it whole with the non-displayed one, re-enters PopOn and records the pts. -/
def Obligations.DisplayedMemoryEndsAndFlips : Prop :=
  ∀ (s : State) (chan ign : BitVec 1),
    let c (n : Nat) : Chan608 := s.remembered chan (miscPair chan ign n)
    let emitted : List Cue :=
      if (c 0).mode = .text then []
      else (cue608 s.cfg (chanIndex s.tx.feed.field chan) (c 0).disp (c 0).prevEndTime s.tx.feed.pts).toList
    (∃ t, exec (.edm608 chan ign) s = .next t ∧
      ControlResult s t chan { c 12 with disp := { (c 12).disp with rows := Vector.replicate 16 [] } } emitted []) ∧
    (∃ t, exec (.eoc608 chan ign) s = .next t ∧
      ControlResult s t chan
        { c 15 with
          mode := .popOn, cur := .nond, disp := (c 15).nond, nond := { (c 15).disp with scroll := 0 }
          prevEndTime := s.tx.feed.pts } emitted [])

/-- CR (44 R309; decisions D21-D24, D30, D31, D89): in RollUp the displayed memory is emitted, each row of the window goes one row up,
every other row is blank, and the pts is recorded; in another mode nothing but the memory of the pair changes. -/
def Obligations.CarriageReturnRollsUp : Prop :=
  ∀ (s : State) (chan ign : BitVec 1),
    let c : Chan608 := s.remembered chan (miscPair chan ign 13)
    ∃ t, exec (.cr608 chan ign) s = .next t ∧
      (c.mode ≠ .rollUp → ControlResult s t chan c [] []) ∧
      (c.mode = .rollUp →
        ControlResult s t chan
          { c with
            disp := { c.disp with
              rows := Vector.ofFn fun i : Fin 16 =>
                if c.disp.row.val ≤ i.val + c.disp.scroll ∧ i.val < c.disp.row.val then c.disp.rows[i.val + 1]?.getD [] else [] }
            prevEndTime := s.tx.feed.pts }
          (cue608 s.cfg (chanIndex s.tx.feed.field chan) c.disp c.prevEndTime s.tx.feed.pts).toList [])

/-- PAC (44 R287-R289, 30 R114, R115; decisions D21-D24, D29, D30, D83): row by the table, style by the attribute over a black
background, and in RollUp a change of row first moves the scroll window, so that each of its rows keeps its distance to the
cursor row, and blanks every other row. -/
def Obligations.PreambleMovesAndStyles : Prop :=
  ∀ (s : State) (chan : BitVec 1) (idx attr : BitVec 4) (ul : BitVec 1),
    let c : Chan608 := s.remembered chan
      (BitVec.ofNat 16 (0x1040 + 0x800 * chan.toNat + 0x100 * (idx.toNat / 2) + 0x20 * (idx.toNat % 2) + 2 * attr.toNat + ul.toNat))
    let m : Mem608 := c.mem c.cur
    ∃ (t : State) (row : Fin 16), exec (.pac608 chan idx attr ul) s = .next t ∧
      [11, 11, 1, 2, 3, 4, 12, 13, 14, 15, 5, 6, 7, 8, 9, 10][idx.toNat]? = some row.val ∧
      ControlResult s t chan
        (c.setMem c.cur { m with
          row := row
          style := { ul := ul == 1, it := attr == 7, fg := coloursP608[attr.toNat]?.getD .white, bg := .black }
          rows :=
            if c.mode = .rollUp ∧ row ≠ m.row then
              Vector.ofFn fun i : Fin 16 =>
                if row.val < i.val + m.scroll ∧ i ≤ row ∧ row.val ≤ i.val + m.row.val then
                  m.rows[i.val + m.row.val - row.val]?.getD []
                else []
            else m.rows }) [] []

/-- Midrow and background codes (44 R290, R291, 30 R116, R117, R125; decisions D21-D24, D35): a midrow code types a space in the old
style and then sets underline, italics and colour but not the background; a background code sets the background alone. -/
def Obligations.MidrowAndBackgroundStyle : Prop :=
  ∀ (s : State) (chan : BitVec 1),
    (∀ (attr : BitVec 3) (ul : BitVec 1),
      let c : Chan608 := s.remembered chan (BitVec.ofNat 16 (0x1120 + 0x800 * chan.toNat + 2 * attr.toNat + ul.toNat))
      let m : Mem608 := c.mem c.cur
      ∃ t, exec (.midrow608 chan attr ul) s = .next t ∧
        ControlResult s t chan
          (c.setMem c.cur
            { m.withRow (typed s.cfg m.style m.rows[m.row] [[' ']]) with
              style := { ul := ul == 1, it := attr == 7, fg := coloursP608[attr.toNat]?.getD .white, bg := m.style.bg } }) [] []) ∧
    (∀ low : BitVec 4,
      let c : Chan608 := s.remembered chan (BitVec.ofNat 16 (0x1020 + 0x800 * chan.toNat + low.toNat))
      let m : Mem608 := c.mem c.cur
      ∃ t, exec (.bg608 chan low) s = .next t ∧
        ControlResult s t chan
          (c.setMem c.cur { m with style := { m.style with bg := coloursP608[low.toNat / 4]?.getD .white } }) [] []) ∧
    (let c : Chan608 := s.remembered chan (BitVec.ofNat 16 (0x172D + 0x800 * chan.toNat))
     let m : Mem608 := c.mem c.cur
     ∃ t, exec (.bgBlack608 chan) s = .next t ∧
       ControlResult s t chan (c.setMem c.cur { m with style := { m.style with bg := .black } }) [] [])

/-- Characters (44 R292, R293, R295-R297, R299; decisions D21-D26, D34, D70): a special character is typed at the end of the current
row; an extended one replaces the last cell; BS removes the last cell; a basic pair, which goes to the field's current channel,
types the glyphs of its bytes from 0x20 on and forgets the last control pair. -/
def Obligations.CharactersAreTyped : Prop :=
  ∀ s : State,
    (∀ (chan : BitVec 1) (idx : BitVec 4),
      let c : Chan608 := s.remembered chan (BitVec.ofNat 16 (0x1130 + 0x800 * chan.toNat + idx.toNat))
      let m : Mem608 := c.mem c.cur
      ∃ t, exec (.special608 chan idx) s = .next t ∧
        ControlResult s t chan
          (c.setMem c.cur (m.withRow (typed s.cfg m.style m.rows[m.row] [s.cfg.specialNA[idx.toNat]'idx.isLt]))) [] []) ∧
    (∀ (chan table : BitVec 1) (idx : BitVec 5),
      let c : Chan608 := s.remembered chan (BitVec.ofNat 16 (0x1220 + 0x800 * chan.toNat + 0x100 * table.toNat + idx.toNat))
      let m : Mem608 := c.mem c.cur
      let glyphs := if table = 0 then s.cfg.extSpFr else s.cfg.extPtDe
      ∃ t, exec (.extended608 chan table idx) s = .next t ∧
        ControlResult s t chan
          (c.setMem c.cur (m.withRow (typed s.cfg m.style m.rows[m.row].dropLast [glyphs[idx.toNat]'idx.isLt]))) [] []) ∧
    (∀ chan ign : BitVec 1,
      let c : Chan608 := s.remembered chan (miscPair chan ign 1)
      let m : Mem608 := c.mem c.cur
      ∃ t, exec (.bs608 chan ign) s = .next t ∧
        ControlResult s t chan (c.setMem c.cur (m.withRow m.rows[m.row].dropLast)) [] []) ∧
    (∀ b1 b2 : BitVec 7,
      let k := chanIndex s.tx.feed.field (s.d608.curChan[s.tx.feed.field.toNat]'s.tx.feed.field.isLt)
      let c : Chan608 := { s.chan608 k with lastCP := none }
      let m : Mem608 := c.mem c.cur
      let glyphs : List Str := ([b1, b2].filter fun b => decide (0x20 ≤ b.toNat)).map fun b =>
        (s.cfg.basicRemap.lookup b.toNat).getD [Char.ofNat b.toNat]
      ∃ t, exec (.basic608 b1 b2) s = .next t ∧ Same608 s t ∧ t.d608.badFrames = 0 ∧ t.d608.curChan = s.d608.curChan ∧
        t.chan608 k = c.setMem c.cur (m.withRow (typed s.cfg m.style m.rows[m.row] glyphs)) ∧
        (∀ j, j ≠ k → t.chan608 j = s.chan608 j) ∧ t.tx.cues = s.tx.cues ∧ t.tx.events = s.tx.events)

/-! ## CEA-708 -/

/-- Codes without an effect: the other C0 codes, DLY, DLC, the reserved C1 codes, C2 and C3 change nothing but the index of the
packet (45 R378, R386, R387, R392, R395, R396; decisions D39, D41, D50); EXT1 only marks the extended code that its byte begins
(R370, R372; log entry 17); and every code that acts on the current window changes nothing where there is none (R373; decision
D40). -/
def Obligations.CodesWithoutAnEffect : Prop :=
  ∀ (s : State) (x : BitVec 3) (y : BitVec 4) (a p1 p2 p3 p4 p5 : Byte),
    (∀ i ∈ [Instr.c0Nop a, .dly p1, .dlc, .c1Reserved a, .c2Skip0 x, .c2Skip1 x p1, .c2Skip2 x p1 p2, .c2Skip3 x p1 p2 p3,
        .c3Skip4 x p1 p2 p3 p4, .c3Skip5 x p1 p2 p3 p4 p5, .c3Skip0 y],
      exec i s = .next s) ∧
    exec .ext1 s = .next { s with tx := { s.tx with feed := { s.tx.feed with ext := some (s.tx.feed.pos - 1) } } } ∧
    (s.curService.current = none →
      ∀ i ∈ [Instr.c0Bs, .c0Ff, .c0Cr, .c0Hcr, .spa p1 p2, .spc p1 p2 p3, .spl p1 p2, .swa p1 p2 p3 p4, .g0 a, .g0Note, .g1 a,
          .g2 a, .g3 a],
        exec i s = .next s)

/-- A character is written at the pen in the pen's style, and the pen goes one column on; outside the declared rows and columns
nothing happens (45 R397-R401; decisions D47, D49). The memory of a legal window holds W708_ROWS by W708_COLS positions (00_scope.md
R8; decision D48); a write where it holds none is discarded and the pen goes on (log entry 37, DEDUCED), which the default parameters
leave no room for. -/
def Obligations.CharactersAreWrittenAtThePen : Prop :=
  ∀ (s : State) (x : BitVec 3) (w : Window) (a : Byte), s.IsCurrent x w →
    (w.Legal s.cfg → ∀ r c, w.Holds r c ↔ r < s.cfg.w708Rows ∧ c < s.cfg.w708Cols) ∧
    ∀ p ∈ [(Instr.g0 a, [Char.ofNat a.toNat]), (.g0Note, ['\u266A']), (.g1 a, [Char.ofNat a.toNat]),
        (.g2 a, (s.cfg.g2Table.lookup a.toNat).getD ['_']), (.g3 a, (s.cfg.g3Table.lookup a.toNat).getD ['_'])],
      ∃ t w', exec p.1 s = .next t ∧ WindowResult s t x w' [] ∧
        (w.pen.row < w.rowCount → w.pen.col < w.colCount →
          w' = { w with mem := w'.mem, pen := { w.pen with col := w.pen.col + 1 } } ∧
          ∀ r c, w'.cell r c =
            if r = w.pen.row ∧ c = w.pen.col ∧ w.Holds r c then
              some { glyph := p.2, ul := w.pen.ul, it := w.pen.it, fg := w.pen.fg, bg := w.pen.bg }
            else w.cell r c) ∧
        (w.rowCount ≤ w.pen.row ∨ w.colCount ≤ w.pen.col → w' = w)

/-- BS (45 R374; decision D45): with the pen in bounds and not at (0,0) it retreats, over the start of a row to the last column of
the row before, and the cell it comes to is erased; else nothing happens. -/
def Obligations.BackspaceRetreatsAndErases : Prop :=
  ∀ (s : State) (x : BitVec 3) (w : Window), s.IsCurrent x w →
    ∃ t w', exec .c0Bs s = .next t ∧ WindowResult s t x w' [] ∧
      (w.rowCount ≤ w.pen.row ∨ w.colCount ≤ w.pen.col ∨ (w.pen.row = 0 ∧ w.pen.col = 0) → w' = w) ∧
      (w.pen.row < w.rowCount → w.pen.col < w.colCount → (w.pen.row ≠ 0 ∨ w.pen.col ≠ 0) →
        w' = { w with mem := w'.mem, pen := w'.pen } ∧
        w'.pen = { w.pen with
          row := if w.pen.col = 0 then w.pen.row - 1 else w.pen.row
          col := if w.pen.col = 0 then w.colCount - 1 else w.pen.col - 1 } ∧
        ∀ r c, w'.cell r c = if r = w'.pen.row ∧ c = w'.pen.col then none else w.cell r c)

/-- CR (45 R375, R402, R403; decision D46): a visible window is emitted; then the pen goes to column 0 of the next row, or on the last
row the rows of the window move up by one and the last is emptied. -/
def Obligations.CarriageReturnAdvancesOrScrolls : Prop :=
  ∀ (s : State) (x : BitVec 3) (w : Window), s.IsCurrent x w →
    let n := s.tx.feed.svc
    let start := startAfter s.cfg n s.tx.feed.pts w
    ∃ t w', exec .c0Cr s = .next t ∧ WindowResult s t x w' (visibleCues s.cfg n s.tx.feed.pts w) ∧
      (w.pen.row + 1 < w.rowCount → w' = { w with start := start, pen := { w.pen with row := w.pen.row + 1, col := 0 } }) ∧
      (w.rowCount ≤ w.pen.row + 1 →
        w' = { w with start := start, mem := w'.mem, pen := { w.pen with col := 0 } } ∧
        ∀ r c, w'.cell r c =
          if r + 1 < w.rowCount then w.cell (r + 1) c else if r + 1 = w.rowCount then none else w.cell r c)

/-- HCR and FF (45 R376, R377, R403): a visible window is emitted; then HCR empties the pen's row and goes to its column 0, and FF
empties the whole memory and sets the pen to (0,0), its style unchanged. -/
def Obligations.ReturnAndFormFeedClear : Prop :=
  ∀ (s : State) (x : BitVec 3) (w : Window), s.IsCurrent x w →
    let n := s.tx.feed.svc
    let start := startAfter s.cfg n s.tx.feed.pts w
    (∃ t w', exec .c0Hcr s = .next t ∧ WindowResult s t x w' (visibleCues s.cfg n s.tx.feed.pts w) ∧
      w' = { w with start := start, mem := w'.mem, pen := { w.pen with col := 0 } } ∧
      ∀ r c, w'.cell r c = if r = w.pen.row then none else w.cell r c) ∧
    (∃ t w', exec .c0Ff s = .next t ∧ WindowResult s t x w' (visibleCues s.cfg n s.tx.feed.pts w) ∧
      w' = { w with start := start, mem := w'.mem, pen := { w.pen with row := 0, col := 0 } } ∧ ∀ r c, w'.cell r c = none)

/-- SWA sets the justification of the current window from the low two bits of its third byte, and nothing else (45 R393). -/
def Obligations.WindowAttributesJustify : Prop :=
  ∀ (s : State) (x : BitVec 3) (w : Window) (p1 p2 p3 p4 : Byte), s.IsCurrent x w →
    ∃ t, exec (.swa p1 p2 p3 p4) s = .next t ∧
      WindowResult s t x { w with justify := BitVec.ofNat 2 (p3.toNat % 4) } []

/-- SPA, SPC and SPL set the pen of the current window (45 R389-R391, 30 R134; decision D41): italics and underline, the two
colours quantized to one bit a component, the row and column. -/
def Obligations.PenCommandsSetThePen : Prop :=
  ∀ (s : State) (x : BitVec 3) (w : Window) (p1 p2 p3 : Byte), s.IsCurrent x w →
    let colour (p : Byte) : Colour708 :=
      BitVec.ofNat 3 (4 * (p.toNat / 32 % 2) + 2 * (p.toNat / 8 % 2) + p.toNat / 2 % 2)
    (∃ t, exec (.spa p1 p2) s = .next t ∧
      WindowResult s t x { w with pen := { w.pen with it := decide (128 ≤ p2.toNat), ul := decide (64 ≤ p2.toNat % 128) } } []) ∧
    (∃ t, exec (.spc p1 p2 p3) s = .next t ∧
      WindowResult s t x { w with pen := { w.pen with fg := colour p1, bg := colour p2 } } []) ∧
    (∃ t, exec (.spl p1 p2) s = .next t ∧
      WindowResult s t x { w with pen := { w.pen with row := p1.toNat % 16, col := p2.toNat % 64 } } [])

/-- CWx and DFx (45 R380, R394, R405; decisions D41, D43, D48, D66): CWx selects a window that is present; DFx makes window x current
with the fields of its six bytes, keeps the memory and justification of one that existed and gives a new one an empty memory of
W708_ROWS by W708_COLS cells (00_scope.md R8), resets the pen unless it existed and the pen style is nonzero, and starts a window that
is new or newly visible at the pts. No cue arises. -/
def Obligations.WindowsAreSelectedAndDefined : Prop :=
  ∀ (s : State) (x : BitVec 3),
    (∃ t, exec (.cwx x) s = .next t ∧ ServiceFrame s t ∧ t.tx.cues = s.tx.cues ∧ (∀ y, t.curWindow y = s.curWindow y) ∧
      t.curService.current = if (s.curWindow x).isSome then some x else s.curService.current) ∧
    ∀ p1 p2 p3 p4 p5 p6 : Byte, ∃ t w', exec (.dfx x p1 p2 p3 p4 p5 p6) s = .next t ∧
      ServiceFrame s t ∧ t.tx.cues = s.tx.cues ∧ t.curService.current = some x ∧ (∀ y, y ≠ x → t.curWindow y = s.curWindow y) ∧
      t.curWindow x = some w' ∧
      w'.visible = p1.getLsbD 5 ∧ w'.relToggle = p2.getLsbD 7 ∧ w'.vAnchor.toNat = p2.toNat % 128 ∧ w'.hAnchor = p3 ∧
      w'.anchorId.toNat = p4.toNat / 16 ∧ w'.rowCount = p4.toNat % 16 + 1 ∧ w'.colCount = p5.toNat % 64 + 1 ∧
      (s.curWindow x = none →
        w'.justify = 0 ∧ w'.mem = List.replicate s.cfg.w708Rows (List.replicate s.cfg.w708Cols none) ∧
        (∀ r c, w'.cell r c = none) ∧ w'.start = s.tx.feed.pts ∧
        w'.pen = { row := 0, col := 0, it := false, ul := false, fg := 7, bg := 0 }) ∧
      (∀ w, s.curWindow x = some w →
        w'.justify = w.justify ∧ w'.mem = w.mem ∧
        w'.start = (if w.visible = false ∧ p1.getLsbD 5 = true then s.tx.feed.pts else w.start) ∧
        w'.pen = if p6.toNat % 8 = 0 then { row := 0, col := 0, it := false, ul := false, fg := 7, bg := 0 } else w.pen)

/-- CLW, DSW, HDW and TGW act on the present windows of the bitmap and leave the others and the current-window pointer (45 R381-R384,
R403; decisions D42, D67, D68): the visible ones are emitted, in rising order, before they are cleared, hidden or toggled; DSW emits
nothing and starts the newly visible ones at the pts. -/
def Obligations.BitmapCommandsActOnTheirWindows : Prop :=
  ∀ (s : State) (bitmap : Byte),
    let n := s.tx.feed.svc
    let pts := s.tx.feed.pts
    let emitted := s.windowCues bitmap.getLsbD (visibleCues s.cfg n pts)
    let start := startAfter s.cfg n pts
    ∀ p ∈ [(Instr.clw bitmap, emitted, fun w : Window =>
          { w with start := start w, mem := w.mem.map fun row => List.replicate row.length none }),
        (.dsw bitmap, [], fun w => { w with visible := true, start := if w.visible then w.start else pts }),
        (.hdw bitmap, emitted, fun w => { w with visible := false, start := start w }),
        (.tgw bitmap, emitted, fun w => { w with visible := !w.visible, start := if w.visible then start w else pts })],
      ∃ t, exec p.1 s = .next t ∧ ServiceFrame s t ∧ t.tx.cues = s.tx.cues ++ p.2.1 ∧
        t.curService.current = s.curService.current ∧
        ∀ y : BitVec 3, t.curWindow y = if bitmap.getLsbD y.toNat then (s.curWindow y).map p.2.2 else s.curWindow y

/-- DLW removes the windows of its bitmap and RST all eight, after emitting the visible ones in rising order; a removed current window
leaves no current one (45 R385, R388, R403; decisions D42, D44). -/
def Obligations.WindowsAreDeleted : Prop :=
  ∀ s : State,
    (∀ bitmap : Byte, ∃ t, exec (.dlw bitmap) s = .next t ∧ ServiceFrame s t ∧
      t.tx.cues = s.tx.cues ++ s.windowCues bitmap.getLsbD (visibleCues s.cfg s.tx.feed.svc s.tx.feed.pts) ∧
      (∀ y : BitVec 3, t.curWindow y = if bitmap.getLsbD y.toNat then none else s.curWindow y) ∧
      (∀ x w, s.IsCurrent x w → t.curService.current = if bitmap.getLsbD x.toNat then none else some x) ∧
      (s.curService.current = none → t.curService.current = none)) ∧
    (∃ t, exec .rst s = .next t ∧ ServiceFrame s t ∧
      t.tx.cues = s.tx.cues ++ s.windowCues (fun _ => true) (visibleCues s.cfg s.tx.feed.svc s.tx.feed.pts) ∧
      (∀ y, t.curWindow y = none) ∧ t.curService.current = none)

/-- DTVCC packets (45 R361-R363; decision D36): a start byte opens a packet of 127 bytes for code 0 and 2·code−1 for another, and logs
the packet it drops; a data byte without an open packet is dropped, one that is not the last is kept with its pts, and the last one
closes the packet, which joins the SUBMIT's completed packets (10_state.md R37) and whose blocks run next. -/
def Obligations.PacketsAreAssembled : Prop :=
  ∀ s : State,
    let b := s.d708.builder
    (∀ (seq : BitVec 2) (code : BitVec 6), exec (.dtvccPacketStart seq code) s = .next { s with
      d708 := { s.d708 with
        builder := { isOpen := true, remaining := if code = 0 then 127 else 2 * code.toNat - 1, bytes := [] } }
      tx := { s.tx with
        events := s.tx.events ++
          if b.isOpen then [.dtvccPacketDropped b.bytes.length (b.bytes.length + b.remaining)] else [] } }) ∧
    ∀ v : Byte,
      (b.isOpen = false → exec (.dtvccData v) s = .next s) ∧
      (b.isOpen = true → 2 ≤ b.remaining → exec (.dtvccData v) s = .next { s with
        d708 := { s.d708 with
          builder := { isOpen := true, remaining := b.remaining - 1, bytes := b.bytes ++ [(v, s.tx.feed.pts)] } } }) ∧
      (b.isOpen = true → b.remaining = 1 → exec (.dtvccData v) s = .next { s with
        phase := .svc
        d708 := { s.d708 with builder := { isOpen := false, remaining := 0, bytes := [] } }
        tx := { s.tx with
          packets := s.tx.packets ++ [b.bytes ++ [(v, s.tx.feed.pts)]]
          feed := { s.tx.feed with pkt := b.bytes ++ [(v, s.tx.feed.pts)], pos := 0, ext := none } } })

/-- Service blocks (45 R364-R368; decisions D37, D69): a block of service 1 to 63 is entered, up to its size from the index on, and the
service is created, empty, at its first reference; a block of service 0, or of size 0, is skipped by its size, within the packet; and
where the bytes of a header or a code do not lie in the packet, DTVCC_OVERRUN is logged and the rest of the packet discarded (log
entries 15, 16). -/
def Obligations.BlocksAreEnteredOrSkipped : Prop :=
  ∀ s : State,
    let entered (n : BitVec 6) (size : Nat) (t : State) : Prop :=
      t = { s with
        phase := .cmd, d708 := t.d708
        tx := { s.tx with feed := { s.tx.feed with svc := n, blockEnd := s.tx.feed.pos + size } } } ∧
      t.d708.builder = s.d708.builder ∧ (∀ m, m ≠ n → t.service m = s.service m) ∧
      t.service n = some ((s.service n).getD { win := Vector.replicate 8 none, current := none })
    let skipped (size : Nat) : State :=
      { s with tx := { s.tx with feed := { s.tx.feed with pos := min (s.tx.feed.pos + size) s.tx.feed.pkt.length } } }
    (∀ (svc : BitVec 3) (size : BitVec 5), (Instr.svcHeader svc size).wf = true → ∃ t, exec (.svcHeader svc size) s = .next t ∧
      entered (BitVec.ofNat 6 svc.toNat) size.toNat t) ∧
    (∀ (svc : BitVec 6) (ign : BitVec 2) (size : BitVec 5), svc ≠ 0 → ∃ t, exec (.svcExtended size ign svc) s = .next t ∧
      entered svc size.toNat t) ∧
    (∀ (ign : BitVec 2) (size : BitVec 5), exec (.svcExtended size ign 0) s = .next (skipped size.toNat)) ∧
    (∀ (svc : BitVec 3) (size : BitVec 5), exec (.svcNullOrEmpty svc size) s = .next (skipped size.toNat)) ∧
    ∀ l bs e, s.fetchPoint = some (l, bs) → decode l bs = .error e → (s.phase = .svc ∨ s.phase = .cmd) →
      step s = .next { s with
        phase := .dec708
        tx := { s.tx with
          feed := { s.tx.feed with ext := none }
          events := s.tx.events ++
            [if s.phase = .svc then .dtvccOverrun 7 (s.tx.feed.pos + 1)
             else .dtvccOverrun s.tx.feed.svc (s.tx.feed.ext.getD s.tx.feed.pos)] } }

/-! ## Cues -/

/-- A cue arises exactly where some character is not white space and the begin lies before the end (46 R443, R447; decisions D3, D55).
It carries its stream and its scaled times; its texts are the runs of the rows of the memory, in row order (R444, R449, R450); its raw
text is the words of its run texts joined by spaces, a word being a maximal part without white space, with one space between two words
(R446, where U+0020 is in WS_SET, as it is by default); and a window's cue has the region of its anchor, size and justification, the
anchor ids 9 to 15 that of ANCHOR_FALLBACK (R448, R450-R453; decisions D51-D53, D86, D88). That the id is CUE_ID of the scaled times
is the model's reading (log entry 20, DEDUCED), and CUE_ID, ROW_TO_LINE_PCT, VIEWPORT_ANCHOR and the multipliers are constants
without a value (log entry 6). -/
def Obligations.CuesNeedTextAndTime : Prop :=
  ∀ (cfg : Params) (t0 t1 : Rat),
    let white (g : Str) : Prop := ∀ ch ∈ g, ch.toNat ∈ cfg.wsSet
    let timed (c : Cue) (b : Rat) : Prop :=
      c.begin_ = (if cfg.timeUnit = .seconds then b else 1000 * b) ∧ c.end_ = (if cfg.timeUnit = .seconds then t1 else 1000 * t1) ∧
      c.id = Config.cueId c.stream.label c.begin_ c.end_ c.rawText ∧
      (0x20 ∈ cfg.wsSet →
        c.rawText = List.intercalate [' ']
          (((List.intercalate [' '] (c.texts.map (·.text))).splitOnP fun ch => decide (ch.toNat ∈ cfg.wsSet)).filter (· ≠ [])))
    (∀ (k : BitVec 2) (m : Mem608),
      (cue608 cfg k m t0 t1 = none ↔ (∀ i : Fin 16, ∀ x ∈ m.rows[i], white x.glyph) ∨ t1 ≤ t0) ∧
      ∀ c, cue608 cfg k m t0 t1 = some c → c.stream = .cc k ∧ timed c t0 ∧ c.region = none ∧
        c.texts = (List.finRange 16).flatMap (fun i => rowRuns cfg (m.rows[i].map fun x => some x.toG)) ∧
        ∃ r0 : Fin 16, c.position = some (Config.rowToLinePct r0) ∧ (∃ x ∈ m.rows[r0], ¬ white x.glyph) ∧
          ∀ i : Fin 16, i < r0 → ∀ x ∈ m.rows[i], white x.glyph) ∧
    (∀ (n : BitVec 6) (w : Window),
      (cue708 cfg n w t1 = none ↔ (∀ r c x, w.cell r c = some x → white x.glyph) ∨ t1 ≤ w.start) ∧
      ∀ c, cue708 cfg n w t1 = some c → c.stream = .service n ∧ timed c w.start ∧ c.position = none ∧
        c.texts = w.mem.flatMap (fun row => rowRuns cfg (row.map (Option.map Cell708.toG))) ∧
        ∃ g : Region, c.region = some g ∧ g.viewportAnchor = Config.viewportAnchor w ∧
          (∀ i : Nat,
            (if w.anchorId.toNat ≤ 8 then i = w.anchorId.toNat
             else [AnchorPoint.ul, .uc, .ur, .ml, .mc, .mr, .ll, .lc, .lr][i]? = some cfg.anchorFallback) →
            g.regionAnchor = (((50 * (i % 3) : Nat) : Rat), ((50 * (i / 3) : Nat) : Rat))) ∧
          g.width = w.colCount * Config.lineWidthMult ∧ g.height = w.rowCount * Config.lineHeightMult ∧ g.scroll = none ∧
          g.align = if w.justify = 0 then .left else if w.justify = 1 then .right else .center)

/-- The runs of a row (46 R444, R445; decisions D56, D87): a row of blank cells alone gives none; else they spell the glyphs from its first
to its last cell that is not blank, each in its own style, an absent cell as a space in the style of the cell before it; and
neighbouring runs differ in style. -/
def Obligations.RunsSpellTheirRow : Prop :=
  (∀ (cfg : Params) (row : List (Option GCell)), (∀ x ∈ row, blankCell cfg x = true) → rowRuns cfg row = []) ∧
  ∀ (cfg : Params) (pre span post : List (Option GCell)),
    (∀ x ∈ pre ++ post, blankCell cfg x = true) →
    (∃ a, span.head? = some a ∧ blankCell cfg a = false) → (∃ b, span.getLast? = some b ∧ blankCell cfg b = false) →
    ∃ filled : List GCell, filled.length = span.length ∧
      (∀ (i : Nat) (c : GCell), span[i]? = some (some c) → filled[i]? = some c) ∧
      (∀ (i : Nat) (c : GCell), span[i + 1]? = some none → filled[i]? = some c → filled[i + 1]? = some { glyph := [' '], style := c.style }) ∧
      ((rowRuns cfg (pre ++ span ++ post)).flatMap fun r => r.text.map fun ch => (ch, r.style)) =
        (filled.flatMap fun c => c.glyph.map fun ch => (ch, c.style)) ∧
      (rowRuns cfg (pre ++ span ++ post)).IsChain fun a b => a.style ≠ b.style
end

