-- ==== Sys2Proof/Laws/Memory.lean ====
section
/-! SUPPORT. Byte spaces keep their canonical form: `Memory.ofBytes` is the only operation that makes one, and no operation writes
one (20_memory.md R70, R83). What is read back is what was placed. -/

namespace Sys2Proof.Machine

/-- The cells of a run of bytes are canonical. -/
theorem Memory.cellsFrom_wf (bs : List Byte) (a lo size : Nat) (hlo : lo ≤ a) (hsize : a + bs.length ≤ size) :
    Memory.cellsWf size lo (Memory.cellsFrom a bs) = true := by
  induction bs generalizing a lo with
  | nil => rfl
  | cons b r ih =>
    simp only [List.length_cons] at hsize
    unfold Memory.cellsFrom
    split
    · exact ih (a + 1) lo (by omega) (by omega)
    · next hb =>
      simp only [Memory.cellsWf, Bool.and_eq_true, decide_eq_true_eq, bne_iff_ne, ne_eq]
      exact ⟨⟨⟨hlo, by omega⟩, hb⟩, ih (a + 1) (a + 1) (by omega) (by omega)⟩

/-- A placed space has the canonical form. -/
@[simp] theorem Memory.ofBytes_wf (bs : List Byte) : (Memory.ofBytes bs).wf = true :=
  Memory.cellsFrom_wf bs 0 0 bs.length (by omega) (by omega)

/-- The empty space has the canonical form. -/
@[simp] theorem Memory.empty_wf : Memory.empty.wf = true := rfl

/-- A placed space has the size of its bytes. -/
@[simp] theorem Memory.ofBytes_size (bs : List Byte) : (Memory.ofBytes bs).size = bs.length := rfl

/-- The cell found at an address of a run of bytes. -/
theorem Memory.cellsFrom_lookup (bs : List Byte) (a i : Nat) :
    (Memory.cellsFrom a bs).lookup i =
      if a ≤ i then (bs[i - a]?).bind fun b => if b = 0#8 then none else some b else none := by
  induction bs generalizing a with
  | nil => simp [Memory.cellsFrom]
  | cons b r ih =>
    unfold Memory.cellsFrom
    by_cases hi : i = a
    · subst hi
      by_cases hb : b = 0#8
      · simp [hb, ih]
      · simp [hb]
    · have hne : (i == a) = false := by simpa using hi
      have hrest : (Memory.cellsFrom (a + 1) r).lookup i =
          if a ≤ i then ((b :: r)[i - a]?).bind fun b => if b = 0#8 then none else some b else none := by
        rw [ih]
        by_cases hle : a + 1 ≤ i
        · have : i - a = (i - (a + 1)) + 1 := by omega
          rw [if_pos hle, if_pos (by omega : a ≤ i), this, List.getElem?_cons_succ]
        · rw [if_neg hle, if_neg (by omega : ¬ a ≤ i)]
      split
      · exact hrest
      · rw [List.lookup_cons, hne]
        exact hrest

/-- Reading a placed space gives the byte that was placed, and nothing past the end (20_memory.md R71). -/
@[simp] theorem Memory.byte?_ofBytes (bs : List Byte) (i : Nat) : (Memory.ofBytes bs).byte? i = bs[i]? := by
  unfold Memory.byte? Memory.unlisted
  show (match (Memory.cellsFrom 0 bs).lookup i with
    | some b => if i < bs.length then some b else none
    | none => if i < bs.length then some 0#8 else none) = _
  rw [Memory.cellsFrom_lookup]
  by_cases h : i < bs.length
  · by_cases hb : bs[i] = 0#8 <;> simp [h, hb]
  · simp [h]

/-- Reading a run of bytes gives at most that many. -/
theorem Memory.slice_length_le (m : Memory) (pos n : Nat) : (m.slice pos n).length ≤ n := by
  induction n generalizing pos with
  | zero => simp [Memory.slice]
  | succ n ih =>
    unfold Memory.slice
    split
    · simpa using ih (pos + 1)
    · simp

/-- Reading a run of bytes of a placed space (20_memory.md R72, R77). -/
theorem Memory.slice_ofBytes (bs : List Byte) (pos n : Nat) : (Memory.ofBytes bs).slice pos n = (bs.drop pos).take n := by
  induction n generalizing pos with
  | zero => simp [Memory.slice]
  | succ n ih =>
    unfold Memory.slice
    rw [Memory.byte?_ofBytes]
    by_cases h : pos < bs.length
    · simp only [List.getElem?_eq_getElem h, ih]
      rw [List.drop_eq_getElem_cons h, List.take_succ_cons]
    · have hn : bs[pos]? = none := List.getElem?_eq_none (by omega)
      simp only [hn]
      rw [List.drop_eq_nil_of_le (by omega)]
      rfl

/-- Every space of the reset state has the canonical form. -/
theorem reset_spaces_wf :
    State.reset.tx.initSpace.wf = true ∧ State.reset.tx.mediaSpace.wf = true ∧ State.reset.tx.sei.nalbuf.wf = true ∧
      State.reset.tx.sei.t35.wf = true := ⟨rfl, rfl, rfl, rfl⟩

/-- Adding to a set keeps it without repeats. -/
theorem setAdd_nodup {α : Type} [DecidableEq α] (x : α) (l : List α) (h : l.Nodup) : (setAdd x l).Nodup := by
  unfold setAdd
  split
  · exact h
  · next hx =>
    rw [List.nodup_append]
    refine ⟨h, List.nodup_singleton x, ?_⟩
    rintro a ha b hb rfl
    rw [List.mem_singleton] at hb
    exact hx (hb ▸ ha)

/-- The members of a set after adding one. -/
theorem mem_setAdd {α : Type} [DecidableEq α] (x y : α) (l : List α) : y ∈ setAdd x l ↔ y = x ∨ y ∈ l := by
  unfold setAdd
  split
  · next h =>
    constructor
    · exact .inr
    · rintro (rfl | h')
      · exact h
      · exact h'
  · simp [or_comm]

end Sys2Proof.Machine
end

