-- ==== Sys2Proof/Laws/State.lean ====
section
/-! SUPPORT. The named updates of State.lean: one lemma for each field and update, true by rfl. -/

namespace Sys2Proof.Machine

/-! ### setPhase -/

@[simp] theorem State.setPhase_cfg (s : State) (p : Phase) : (s.setPhase p).cfg = s.cfg := rfl
@[simp] theorem State.setPhase_init (s : State) (p : Phase) : (s.setPhase p).init = s.init := rfl
@[simp] theorem State.setPhase_dedup (s : State) (p : Phase) : (s.setPhase p).dedup = s.dedup := rfl
@[simp] theorem State.setPhase_disabled (s : State) (p : Phase) : (s.setPhase p).disabled = s.disabled := rfl
@[simp] theorem State.setPhase_d608 (s : State) (p : Phase) : (s.setPhase p).d608 = s.d608 := rfl
@[simp] theorem State.setPhase_d708 (s : State) (p : Phase) : (s.setPhase p).d708 = s.d708 := rfl
@[simp] theorem State.setPhase_phase (s : State) (p : Phase) : (s.setPhase p).phase = p := rfl
@[simp] theorem State.setPhase_tx (s : State) (p : Phase) : (s.setPhase p).tx = s.tx := rfl
@[simp] theorem State.setPhase_fieldOut (s : State) (p : Phase) : (s.setPhase p).fieldOut = s.fieldOut := rfl
@[simp] theorem State.setPhase_inbox (s : State) (p : Phase) : (s.setPhase p).inbox = s.inbox := rfl
@[simp] theorem State.setPhase_outbox (s : State) (p : Phase) : (s.setPhase p).outbox = s.outbox := rfl

/-! ### setTx -/

@[simp] theorem State.setTx_cfg (s : State) (x : Tx) : (s.setTx x).cfg = s.cfg := rfl
@[simp] theorem State.setTx_init (s : State) (x : Tx) : (s.setTx x).init = s.init := rfl
@[simp] theorem State.setTx_dedup (s : State) (x : Tx) : (s.setTx x).dedup = s.dedup := rfl
@[simp] theorem State.setTx_disabled (s : State) (x : Tx) : (s.setTx x).disabled = s.disabled := rfl
@[simp] theorem State.setTx_d608 (s : State) (x : Tx) : (s.setTx x).d608 = s.d608 := rfl
@[simp] theorem State.setTx_d708 (s : State) (x : Tx) : (s.setTx x).d708 = s.d708 := rfl
@[simp] theorem State.setTx_phase (s : State) (x : Tx) : (s.setTx x).phase = s.phase := rfl
@[simp] theorem State.setTx_tx (s : State) (x : Tx) : (s.setTx x).tx = x := rfl
@[simp] theorem State.setTx_fieldOut (s : State) (x : Tx) : (s.setTx x).fieldOut = s.fieldOut := rfl
@[simp] theorem State.setTx_inbox (s : State) (x : Tx) : (s.setTx x).inbox = s.inbox := rfl
@[simp] theorem State.setTx_outbox (s : State) (x : Tx) : (s.setTx x).outbox = s.outbox := rfl

/-! ### setInit -/

@[simp] theorem State.setInit_cfg (s : State) (x : InitCtx) : (s.setInit x).cfg = s.cfg := rfl
@[simp] theorem State.setInit_init (s : State) (x : InitCtx) : (s.setInit x).init = x := rfl
@[simp] theorem State.setInit_dedup (s : State) (x : InitCtx) : (s.setInit x).dedup = s.dedup := rfl
@[simp] theorem State.setInit_disabled (s : State) (x : InitCtx) : (s.setInit x).disabled = s.disabled := rfl
@[simp] theorem State.setInit_d608 (s : State) (x : InitCtx) : (s.setInit x).d608 = s.d608 := rfl
@[simp] theorem State.setInit_d708 (s : State) (x : InitCtx) : (s.setInit x).d708 = s.d708 := rfl
@[simp] theorem State.setInit_phase (s : State) (x : InitCtx) : (s.setInit x).phase = s.phase := rfl
@[simp] theorem State.setInit_tx (s : State) (x : InitCtx) : (s.setInit x).tx = s.tx := rfl
@[simp] theorem State.setInit_fieldOut (s : State) (x : InitCtx) : (s.setInit x).fieldOut = s.fieldOut := rfl
@[simp] theorem State.setInit_inbox (s : State) (x : InitCtx) : (s.setInit x).inbox = s.inbox := rfl
@[simp] theorem State.setInit_outbox (s : State) (x : InitCtx) : (s.setInit x).outbox = s.outbox := rfl

/-! ### setDedup -/

@[simp] theorem State.setDedup_cfg (s : State) (x : DedupCtx) : (s.setDedup x).cfg = s.cfg := rfl
@[simp] theorem State.setDedup_init (s : State) (x : DedupCtx) : (s.setDedup x).init = s.init := rfl
@[simp] theorem State.setDedup_dedup (s : State) (x : DedupCtx) : (s.setDedup x).dedup = x := rfl
@[simp] theorem State.setDedup_disabled (s : State) (x : DedupCtx) : (s.setDedup x).disabled = s.disabled := rfl
@[simp] theorem State.setDedup_d608 (s : State) (x : DedupCtx) : (s.setDedup x).d608 = s.d608 := rfl
@[simp] theorem State.setDedup_d708 (s : State) (x : DedupCtx) : (s.setDedup x).d708 = s.d708 := rfl
@[simp] theorem State.setDedup_phase (s : State) (x : DedupCtx) : (s.setDedup x).phase = s.phase := rfl
@[simp] theorem State.setDedup_tx (s : State) (x : DedupCtx) : (s.setDedup x).tx = s.tx := rfl
@[simp] theorem State.setDedup_fieldOut (s : State) (x : DedupCtx) : (s.setDedup x).fieldOut = s.fieldOut := rfl
@[simp] theorem State.setDedup_inbox (s : State) (x : DedupCtx) : (s.setDedup x).inbox = s.inbox := rfl
@[simp] theorem State.setDedup_outbox (s : State) (x : DedupCtx) : (s.setDedup x).outbox = s.outbox := rfl

/-! ### setDisabled -/

@[simp] theorem State.setDisabled_cfg (s : State) (b : Bool) : (s.setDisabled b).cfg = s.cfg := rfl
@[simp] theorem State.setDisabled_init (s : State) (b : Bool) : (s.setDisabled b).init = s.init := rfl
@[simp] theorem State.setDisabled_dedup (s : State) (b : Bool) : (s.setDisabled b).dedup = s.dedup := rfl
@[simp] theorem State.setDisabled_disabled (s : State) (b : Bool) : (s.setDisabled b).disabled = b := rfl
@[simp] theorem State.setDisabled_d608 (s : State) (b : Bool) : (s.setDisabled b).d608 = s.d608 := rfl
@[simp] theorem State.setDisabled_d708 (s : State) (b : Bool) : (s.setDisabled b).d708 = s.d708 := rfl
@[simp] theorem State.setDisabled_phase (s : State) (b : Bool) : (s.setDisabled b).phase = s.phase := rfl
@[simp] theorem State.setDisabled_tx (s : State) (b : Bool) : (s.setDisabled b).tx = s.tx := rfl
@[simp] theorem State.setDisabled_fieldOut (s : State) (b : Bool) : (s.setDisabled b).fieldOut = s.fieldOut := rfl
@[simp] theorem State.setDisabled_inbox (s : State) (b : Bool) : (s.setDisabled b).inbox = s.inbox := rfl
@[simp] theorem State.setDisabled_outbox (s : State) (b : Bool) : (s.setDisabled b).outbox = s.outbox := rfl

/-! ### setD608 -/

@[simp] theorem State.setD608_cfg (s : State) (d : Dec608) : (s.setD608 d).cfg = s.cfg := rfl
@[simp] theorem State.setD608_init (s : State) (d : Dec608) : (s.setD608 d).init = s.init := rfl
@[simp] theorem State.setD608_dedup (s : State) (d : Dec608) : (s.setD608 d).dedup = s.dedup := rfl
@[simp] theorem State.setD608_disabled (s : State) (d : Dec608) : (s.setD608 d).disabled = s.disabled := rfl
@[simp] theorem State.setD608_d608 (s : State) (d : Dec608) : (s.setD608 d).d608 = d := rfl
@[simp] theorem State.setD608_d708 (s : State) (d : Dec608) : (s.setD608 d).d708 = s.d708 := rfl
@[simp] theorem State.setD608_phase (s : State) (d : Dec608) : (s.setD608 d).phase = s.phase := rfl
@[simp] theorem State.setD608_tx (s : State) (d : Dec608) : (s.setD608 d).tx = s.tx := rfl
@[simp] theorem State.setD608_fieldOut (s : State) (d : Dec608) : (s.setD608 d).fieldOut = s.fieldOut := rfl
@[simp] theorem State.setD608_inbox (s : State) (d : Dec608) : (s.setD608 d).inbox = s.inbox := rfl
@[simp] theorem State.setD608_outbox (s : State) (d : Dec608) : (s.setD608 d).outbox = s.outbox := rfl

/-! ### setD708 -/

@[simp] theorem State.setD708_cfg (s : State) (d : Dec708) : (s.setD708 d).cfg = s.cfg := rfl
@[simp] theorem State.setD708_init (s : State) (d : Dec708) : (s.setD708 d).init = s.init := rfl
@[simp] theorem State.setD708_dedup (s : State) (d : Dec708) : (s.setD708 d).dedup = s.dedup := rfl
@[simp] theorem State.setD708_disabled (s : State) (d : Dec708) : (s.setD708 d).disabled = s.disabled := rfl
@[simp] theorem State.setD708_d608 (s : State) (d : Dec708) : (s.setD708 d).d608 = s.d608 := rfl
@[simp] theorem State.setD708_d708 (s : State) (d : Dec708) : (s.setD708 d).d708 = d := rfl
@[simp] theorem State.setD708_phase (s : State) (d : Dec708) : (s.setD708 d).phase = s.phase := rfl
@[simp] theorem State.setD708_tx (s : State) (d : Dec708) : (s.setD708 d).tx = s.tx := rfl
@[simp] theorem State.setD708_fieldOut (s : State) (d : Dec708) : (s.setD708 d).fieldOut = s.fieldOut := rfl
@[simp] theorem State.setD708_inbox (s : State) (d : Dec708) : (s.setD708 d).inbox = s.inbox := rfl
@[simp] theorem State.setD708_outbox (s : State) (d : Dec708) : (s.setD708 d).outbox = s.outbox := rfl

/-! ### setFieldOut -/

@[simp] theorem State.setFieldOut_cfg (s : State) (l : List FieldRecord) : (s.setFieldOut l).cfg = s.cfg := rfl
@[simp] theorem State.setFieldOut_init (s : State) (l : List FieldRecord) : (s.setFieldOut l).init = s.init := rfl
@[simp] theorem State.setFieldOut_dedup (s : State) (l : List FieldRecord) : (s.setFieldOut l).dedup = s.dedup := rfl
@[simp] theorem State.setFieldOut_disabled (s : State) (l : List FieldRecord) : (s.setFieldOut l).disabled = s.disabled := rfl
@[simp] theorem State.setFieldOut_d608 (s : State) (l : List FieldRecord) : (s.setFieldOut l).d608 = s.d608 := rfl
@[simp] theorem State.setFieldOut_d708 (s : State) (l : List FieldRecord) : (s.setFieldOut l).d708 = s.d708 := rfl
@[simp] theorem State.setFieldOut_phase (s : State) (l : List FieldRecord) : (s.setFieldOut l).phase = s.phase := rfl
@[simp] theorem State.setFieldOut_tx (s : State) (l : List FieldRecord) : (s.setFieldOut l).tx = s.tx := rfl
@[simp] theorem State.setFieldOut_fieldOut (s : State) (l : List FieldRecord) : (s.setFieldOut l).fieldOut = l := rfl
@[simp] theorem State.setFieldOut_inbox (s : State) (l : List FieldRecord) : (s.setFieldOut l).inbox = s.inbox := rfl
@[simp] theorem State.setFieldOut_outbox (s : State) (l : List FieldRecord) : (s.setFieldOut l).outbox = s.outbox := rfl

/-! ### setInbox -/

@[simp] theorem State.setInbox_cfg (s : State) (l : List Transaction) : (s.setInbox l).cfg = s.cfg := rfl
@[simp] theorem State.setInbox_init (s : State) (l : List Transaction) : (s.setInbox l).init = s.init := rfl
@[simp] theorem State.setInbox_dedup (s : State) (l : List Transaction) : (s.setInbox l).dedup = s.dedup := rfl
@[simp] theorem State.setInbox_disabled (s : State) (l : List Transaction) : (s.setInbox l).disabled = s.disabled := rfl
@[simp] theorem State.setInbox_d608 (s : State) (l : List Transaction) : (s.setInbox l).d608 = s.d608 := rfl
@[simp] theorem State.setInbox_d708 (s : State) (l : List Transaction) : (s.setInbox l).d708 = s.d708 := rfl
@[simp] theorem State.setInbox_phase (s : State) (l : List Transaction) : (s.setInbox l).phase = s.phase := rfl
@[simp] theorem State.setInbox_tx (s : State) (l : List Transaction) : (s.setInbox l).tx = s.tx := rfl
@[simp] theorem State.setInbox_fieldOut (s : State) (l : List Transaction) : (s.setInbox l).fieldOut = s.fieldOut := rfl
@[simp] theorem State.setInbox_inbox (s : State) (l : List Transaction) : (s.setInbox l).inbox = l := rfl
@[simp] theorem State.setInbox_outbox (s : State) (l : List Transaction) : (s.setInbox l).outbox = s.outbox := rfl

/-! ### setOutbox -/

@[simp] theorem State.setOutbox_cfg (s : State) (l : List TxResult) : (s.setOutbox l).cfg = s.cfg := rfl
@[simp] theorem State.setOutbox_init (s : State) (l : List TxResult) : (s.setOutbox l).init = s.init := rfl
@[simp] theorem State.setOutbox_dedup (s : State) (l : List TxResult) : (s.setOutbox l).dedup = s.dedup := rfl
@[simp] theorem State.setOutbox_disabled (s : State) (l : List TxResult) : (s.setOutbox l).disabled = s.disabled := rfl
@[simp] theorem State.setOutbox_d608 (s : State) (l : List TxResult) : (s.setOutbox l).d608 = s.d608 := rfl
@[simp] theorem State.setOutbox_d708 (s : State) (l : List TxResult) : (s.setOutbox l).d708 = s.d708 := rfl
@[simp] theorem State.setOutbox_phase (s : State) (l : List TxResult) : (s.setOutbox l).phase = s.phase := rfl
@[simp] theorem State.setOutbox_tx (s : State) (l : List TxResult) : (s.setOutbox l).tx = s.tx := rfl
@[simp] theorem State.setOutbox_fieldOut (s : State) (l : List TxResult) : (s.setOutbox l).fieldOut = s.fieldOut := rfl
@[simp] theorem State.setOutbox_inbox (s : State) (l : List TxResult) : (s.setOutbox l).inbox = s.inbox := rfl
@[simp] theorem State.setOutbox_outbox (s : State) (l : List TxResult) : (s.setOutbox l).outbox = l := rfl

end Sys2Proof.Machine
end

