-- ==== Sys2Proof/Laws/Ops.lean ====
section
/-! SUPPORT. The shared operations of Ops.lean: their fields, each true by rfl, and for each operation that decides something one lemma
that says everything it can do. -/

namespace Sys2Proof.Machine

/-! ### logEvent -/

@[simp] theorem State.logEvent_cfg (s : State) (e : Event) : (s.logEvent e).cfg = s.cfg := rfl
@[simp] theorem State.logEvent_init (s : State) (e : Event) : (s.logEvent e).init = s.init := rfl
@[simp] theorem State.logEvent_dedup (s : State) (e : Event) : (s.logEvent e).dedup = s.dedup := rfl
@[simp] theorem State.logEvent_disabled (s : State) (e : Event) : (s.logEvent e).disabled = s.disabled := rfl
@[simp] theorem State.logEvent_d608 (s : State) (e : Event) : (s.logEvent e).d608 = s.d608 := rfl
@[simp] theorem State.logEvent_d708 (s : State) (e : Event) : (s.logEvent e).d708 = s.d708 := rfl
@[simp] theorem State.logEvent_phase (s : State) (e : Event) : (s.logEvent e).phase = s.phase := rfl
@[simp] theorem State.logEvent_tx (s : State) (e : Event) :
    (s.logEvent e).tx = { s.tx with events := s.tx.events ++ [e] } := rfl
@[simp] theorem State.logEvent_fieldOut (s : State) (e : Event) : (s.logEvent e).fieldOut = s.fieldOut := rfl
@[simp] theorem State.logEvent_inbox (s : State) (e : Event) : (s.logEvent e).inbox = s.inbox := rfl
@[simp] theorem State.logEvent_outbox (s : State) (e : Event) : (s.logEvent e).outbox = s.outbox := rfl

/-! ### logEvents -/

@[simp] theorem State.logEvents_cfg (s : State) (es : List Event) : (s.logEvents es).cfg = s.cfg := rfl
@[simp] theorem State.logEvents_init (s : State) (es : List Event) : (s.logEvents es).init = s.init := rfl
@[simp] theorem State.logEvents_dedup (s : State) (es : List Event) : (s.logEvents es).dedup = s.dedup := rfl
@[simp] theorem State.logEvents_disabled (s : State) (es : List Event) : (s.logEvents es).disabled = s.disabled := rfl
@[simp] theorem State.logEvents_d608 (s : State) (es : List Event) : (s.logEvents es).d608 = s.d608 := rfl
@[simp] theorem State.logEvents_d708 (s : State) (es : List Event) : (s.logEvents es).d708 = s.d708 := rfl
@[simp] theorem State.logEvents_phase (s : State) (es : List Event) : (s.logEvents es).phase = s.phase := rfl
@[simp] theorem State.logEvents_tx (s : State) (es : List Event) :
    (s.logEvents es).tx = { s.tx with events := s.tx.events ++ es } := rfl
@[simp] theorem State.logEvents_fieldOut (s : State) (es : List Event) : (s.logEvents es).fieldOut = s.fieldOut := rfl
@[simp] theorem State.logEvents_inbox (s : State) (es : List Event) : (s.logEvents es).inbox = s.inbox := rfl
@[simp] theorem State.logEvents_outbox (s : State) (es : List Event) : (s.logEvents es).outbox = s.outbox := rfl

/-! ### emitCues -/

@[simp] theorem State.emitCues_cfg (s : State) (cs : List Cue) : (s.emitCues cs).cfg = s.cfg := rfl
@[simp] theorem State.emitCues_init (s : State) (cs : List Cue) : (s.emitCues cs).init = s.init := rfl
@[simp] theorem State.emitCues_dedup (s : State) (cs : List Cue) : (s.emitCues cs).dedup = s.dedup := rfl
@[simp] theorem State.emitCues_disabled (s : State) (cs : List Cue) : (s.emitCues cs).disabled = s.disabled := rfl
@[simp] theorem State.emitCues_d608 (s : State) (cs : List Cue) : (s.emitCues cs).d608 = s.d608 := rfl
@[simp] theorem State.emitCues_d708 (s : State) (cs : List Cue) : (s.emitCues cs).d708 = s.d708 := rfl
@[simp] theorem State.emitCues_phase (s : State) (cs : List Cue) : (s.emitCues cs).phase = s.phase := rfl
@[simp] theorem State.emitCues_tx (s : State) (cs : List Cue) :
    (s.emitCues cs).tx = { s.tx with cues := s.tx.cues ++ cs } := rfl
@[simp] theorem State.emitCues_fieldOut (s : State) (cs : List Cue) : (s.emitCues cs).fieldOut = s.fieldOut := rfl
@[simp] theorem State.emitCues_inbox (s : State) (cs : List Cue) : (s.emitCues cs).inbox = s.inbox := rfl
@[simp] theorem State.emitCues_outbox (s : State) (cs : List Cue) : (s.emitCues cs).outbox = s.outbox := rfl

/-! ### finish -/

@[simp] theorem State.finish_cfg (s : State) (a : Bool) : (s.finish a).cfg = s.cfg := rfl
@[simp] theorem State.finish_init (s : State) (a : Bool) : (s.finish a).init = s.init := rfl
@[simp] theorem State.finish_dedup (s : State) (a : Bool) : (s.finish a).dedup = s.dedup := rfl
@[simp] theorem State.finish_disabled (s : State) (a : Bool) : (s.finish a).disabled = s.disabled := rfl
@[simp] theorem State.finish_d608 (s : State) (a : Bool) : (s.finish a).d608 = s.d608 := rfl
@[simp] theorem State.finish_d708 (s : State) (a : Bool) : (s.finish a).d708 = s.d708 := rfl
@[simp] theorem State.finish_phase (s : State) (a : Bool) : (s.finish a).phase = .idle := rfl
@[simp] theorem State.finish_tx (s : State) (a : Bool) : (s.finish a).tx = .empty := rfl
@[simp] theorem State.finish_fieldOut (s : State) (a : Bool) : (s.finish a).fieldOut = s.fieldOut := rfl
@[simp] theorem State.finish_inbox (s : State) (a : Bool) : (s.finish a).inbox = s.inbox := rfl
@[simp] theorem State.finish_outbox (s : State) (a : Bool) :
    (s.finish a).outbox = s.outbox ++ [{ cues := s.tx.cues, timing := s.tx.timing, events := s.tx.events, abnormal := a }] := rfl

/-! ### putBack -/

@[simp] theorem State.putBack_cfg (s : State) : s.putBack.cfg = s.cfg := rfl
@[simp] theorem State.putBack_init (s : State) : s.putBack.init = s.tx.found.init := rfl
@[simp] theorem State.putBack_dedup (s : State) : s.putBack.dedup = s.dedup := rfl
@[simp] theorem State.putBack_disabled (s : State) : s.putBack.disabled = s.tx.found.disabled := rfl
@[simp] theorem State.putBack_d608 (s : State) : s.putBack.d608 = s.d608 := rfl
@[simp] theorem State.putBack_d708 (s : State) : s.putBack.d708 = s.d708 := rfl
@[simp] theorem State.putBack_phase (s : State) : s.putBack.phase = s.phase := rfl
@[simp] theorem State.putBack_tx (s : State) : s.putBack.tx = s.tx := rfl
@[simp] theorem State.putBack_fieldOut (s : State) : s.putBack.fieldOut = s.fieldOut := rfl
@[simp] theorem State.putBack_inbox (s : State) : s.putBack.inbox = s.inbox := rfl
@[simp] theorem State.putBack_outbox (s : State) : s.putBack.outbox = s.outbox := rfl

/-! ### takeError -/

@[simp] theorem State.takeError_cfg (s : State) (e : Event) (a : Bool) : (s.takeError e a).cfg = s.cfg := rfl
@[simp] theorem State.takeError_init (s : State) (e : Event) (a : Bool) : (s.takeError e a).init = s.tx.found.init := rfl
@[simp] theorem State.takeError_dedup (s : State) (e : Event) (a : Bool) : (s.takeError e a).dedup = s.dedup := rfl
@[simp] theorem State.takeError_disabled (s : State) (e : Event) (a : Bool) :
    (s.takeError e a).disabled = s.tx.found.disabled := rfl
@[simp] theorem State.takeError_d608 (s : State) (e : Event) (a : Bool) : (s.takeError e a).d608 = s.d608 := rfl
@[simp] theorem State.takeError_d708 (s : State) (e : Event) (a : Bool) : (s.takeError e a).d708 = s.d708 := rfl
@[simp] theorem State.takeError_phase (s : State) (e : Event) (a : Bool) : (s.takeError e a).phase = .idle := rfl
@[simp] theorem State.takeError_tx (s : State) (e : Event) (a : Bool) : (s.takeError e a).tx = .empty := rfl
@[simp] theorem State.takeError_fieldOut (s : State) (e : Event) (a : Bool) : (s.takeError e a).fieldOut = s.fieldOut := rfl
@[simp] theorem State.takeError_inbox (s : State) (e : Event) (a : Bool) : (s.takeError e a).inbox = s.inbox := rfl
@[simp] theorem State.takeError_outbox (s : State) (e : Event) (a : Bool) :
    (s.takeError e a).outbox = s.outbox ++ [{ cues := [], timing := [], events := s.tx.events ++ [e], abnormal := a }] := rfl

/-! ### clear -/

@[simp] theorem State.clear_cfg (s : State) : (s.clear).cfg = s.cfg := rfl
@[simp] theorem State.clear_init (s : State) : (s.clear).init = .reset := rfl
@[simp] theorem State.clear_dedup (s : State) : (s.clear).dedup = .reset := rfl
@[simp] theorem State.clear_disabled (s : State) : (s.clear).disabled = false := rfl
@[simp] theorem State.clear_d608 (s : State) : (s.clear).d608 = .reset := rfl
@[simp] theorem State.clear_d708 (s : State) : (s.clear).d708 = .reset := rfl
@[simp] theorem State.clear_phase (s : State) : (s.clear).phase = s.phase := rfl
@[simp] theorem State.clear_tx (s : State) : (s.clear).tx = s.tx := rfl
@[simp] theorem State.clear_fieldOut (s : State) : (s.clear).fieldOut = s.fieldOut := rfl
@[simp] theorem State.clear_inbox (s : State) : (s.clear).inbox = s.inbox := rfl
@[simp] theorem State.clear_outbox (s : State) : (s.clear).outbox = s.outbox := rfl

/-! ### beginSubmit -/

@[simp] theorem State.beginSubmit_cfg (s : State) (i m : List Byte) (seg per : Str) : (s.beginSubmit i m seg per).cfg = s.cfg := rfl
@[simp] theorem State.beginSubmit_init (s : State) (i m : List Byte) (seg per : Str) : (s.beginSubmit i m seg per).init = s.init := rfl
@[simp] theorem State.beginSubmit_dedup (s : State) (i m : List Byte) (seg per : Str) : (s.beginSubmit i m seg per).dedup = s.dedup := rfl
@[simp] theorem State.beginSubmit_disabled (s : State) (i m : List Byte) (seg per : Str) : (s.beginSubmit i m seg per).disabled = s.disabled := rfl
@[simp] theorem State.beginSubmit_d608 (s : State) (i m : List Byte) (seg per : Str) : (s.beginSubmit i m seg per).d608 = s.d608 := rfl
@[simp] theorem State.beginSubmit_d708 (s : State) (i m : List Byte) (seg per : Str) : (s.beginSubmit i m seg per).d708 = s.d708 := rfl
@[simp] theorem State.beginSubmit_phase (s : State) (i m : List Byte) (seg per : Str) : (s.beginSubmit i m seg per).phase = s.phase := rfl
@[simp] theorem State.beginSubmit_fieldOut (s : State) (i m : List Byte) (seg per : Str) : (s.beginSubmit i m seg per).fieldOut = s.fieldOut := rfl
@[simp] theorem State.beginSubmit_inbox (s : State) (i m : List Byte) (seg per : Str) : (s.beginSubmit i m seg per).inbox = s.inbox := rfl
@[simp] theorem State.beginSubmit_outbox (s : State) (i m : List Byte) (seg per : Str) : (s.beginSubmit i m seg per).outbox = s.outbox := rfl
@[simp] theorem State.beginSubmit_tx (s : State) (i m : List Byte) (seg per : Str) :
    (s.beginSubmit i m seg per).tx = Tx.ofSubmit i m seg per { init := s.init, disabled := s.disabled } := rfl

/-! ### putService -/

@[simp] theorem State.putService_cfg (s : State) (sv : Service) : (s.putService sv).cfg = s.cfg := rfl
@[simp] theorem State.putService_init (s : State) (sv : Service) : (s.putService sv).init = s.init := rfl
@[simp] theorem State.putService_dedup (s : State) (sv : Service) : (s.putService sv).dedup = s.dedup := rfl
@[simp] theorem State.putService_disabled (s : State) (sv : Service) : (s.putService sv).disabled = s.disabled := rfl
@[simp] theorem State.putService_d608 (s : State) (sv : Service) : (s.putService sv).d608 = s.d608 := rfl
@[simp] theorem State.putService_d708 (s : State) (sv : Service) :
    (s.putService sv).d708 = { s.d708 with svc := mapPut s.tx.feed.svc sv s.d708.svc } := rfl
@[simp] theorem State.putService_phase (s : State) (sv : Service) : (s.putService sv).phase = s.phase := rfl
@[simp] theorem State.putService_tx (s : State) (sv : Service) : (s.putService sv).tx = s.tx := rfl
@[simp] theorem State.putService_fieldOut (s : State) (sv : Service) : (s.putService sv).fieldOut = s.fieldOut := rfl
@[simp] theorem State.putService_inbox (s : State) (sv : Service) : (s.putService sv).inbox = s.inbox := rfl
@[simp] theorem State.putService_outbox (s : State) (sv : Service) : (s.putService sv).outbox = s.outbox := rfl

/-! ### onAcc -/

@[simp] theorem State.onAcc_cfg (s : State) (f : InitAcc → InitAcc) : (s.onAcc f).cfg = s.cfg := rfl
@[simp] theorem State.onAcc_init (s : State) (f : InitAcc → InitAcc) : (s.onAcc f).init = s.init := rfl
@[simp] theorem State.onAcc_dedup (s : State) (f : InitAcc → InitAcc) : (s.onAcc f).dedup = s.dedup := rfl
@[simp] theorem State.onAcc_disabled (s : State) (f : InitAcc → InitAcc) : (s.onAcc f).disabled = s.disabled := rfl
@[simp] theorem State.onAcc_d608 (s : State) (f : InitAcc → InitAcc) : (s.onAcc f).d608 = s.d608 := rfl
@[simp] theorem State.onAcc_d708 (s : State) (f : InitAcc → InitAcc) : (s.onAcc f).d708 = s.d708 := rfl
@[simp] theorem State.onAcc_phase (s : State) (f : InitAcc → InitAcc) : (s.onAcc f).phase = s.phase := rfl
@[simp] theorem State.onAcc_tx (s : State) (f : InitAcc → InitAcc) : (s.onAcc f).tx = { s.tx with acc := f s.tx.acc } := rfl
@[simp] theorem State.onAcc_fieldOut (s : State) (f : InitAcc → InitAcc) : (s.onAcc f).fieldOut = s.fieldOut := rfl
@[simp] theorem State.onAcc_inbox (s : State) (f : InitAcc → InitAcc) : (s.onAcc f).inbox = s.inbox := rfl
@[simp] theorem State.onAcc_outbox (s : State) (f : InitAcc → InitAcc) : (s.onAcc f).outbox = s.outbox := rfl

/-! ### onSlots -/

@[simp] theorem State.onSlots_cfg (s : State) (f : Slots → Slots) : (s.onSlots f).cfg = s.cfg := rfl
@[simp] theorem State.onSlots_init (s : State) (f : Slots → Slots) : (s.onSlots f).init = s.init := rfl
@[simp] theorem State.onSlots_dedup (s : State) (f : Slots → Slots) : (s.onSlots f).dedup = s.dedup := rfl
@[simp] theorem State.onSlots_disabled (s : State) (f : Slots → Slots) : (s.onSlots f).disabled = s.disabled := rfl
@[simp] theorem State.onSlots_d608 (s : State) (f : Slots → Slots) : (s.onSlots f).d608 = s.d608 := rfl
@[simp] theorem State.onSlots_d708 (s : State) (f : Slots → Slots) : (s.onSlots f).d708 = s.d708 := rfl
@[simp] theorem State.onSlots_phase (s : State) (f : Slots → Slots) : (s.onSlots f).phase = s.phase := rfl
@[simp] theorem State.onSlots_tx (s : State) (f : Slots → Slots) : (s.onSlots f).tx = { s.tx with slots := f s.tx.slots } := rfl
@[simp] theorem State.onSlots_fieldOut (s : State) (f : Slots → Slots) : (s.onSlots f).fieldOut = s.fieldOut := rfl
@[simp] theorem State.onSlots_inbox (s : State) (f : Slots → Slots) : (s.onSlots f).inbox = s.inbox := rfl
@[simp] theorem State.onSlots_outbox (s : State) (f : Slots → Slots) : (s.onSlots f).outbox = s.outbox := rfl

/-! ### routeControl -/

@[simp] theorem State.routeControl_cfg (s : State) (c : BitVec 1) : (s.routeControl c).cfg = s.cfg := rfl
@[simp] theorem State.routeControl_init (s : State) (c : BitVec 1) : (s.routeControl c).init = s.init := rfl
@[simp] theorem State.routeControl_dedup (s : State) (c : BitVec 1) : (s.routeControl c).dedup = s.dedup := rfl
@[simp] theorem State.routeControl_disabled (s : State) (c : BitVec 1) : (s.routeControl c).disabled = s.disabled := rfl
@[simp] theorem State.routeControl_d608 (s : State) (c : BitVec 1) :
    (s.routeControl c).d608 = { s.d608 with curChan := s.d608.curChan.set s.tx.feed.field.toNat c s.tx.feed.field.isLt } := rfl
@[simp] theorem State.routeControl_d708 (s : State) (c : BitVec 1) : (s.routeControl c).d708 = s.d708 := rfl
@[simp] theorem State.routeControl_phase (s : State) (c : BitVec 1) : (s.routeControl c).phase = s.phase := rfl
@[simp] theorem State.routeControl_tx (s : State) (c : BitVec 1) : (s.routeControl c).tx = s.tx := rfl
@[simp] theorem State.routeControl_fieldOut (s : State) (c : BitVec 1) : (s.routeControl c).fieldOut = s.fieldOut := rfl
@[simp] theorem State.routeControl_inbox (s : State) (c : BitVec 1) : (s.routeControl c).inbox = s.inbox := rfl
@[simp] theorem State.routeControl_outbox (s : State) (c : BitVec 1) : (s.routeControl c).outbox = s.outbox := rfl

/-! ### leaveBox -/

@[simp] theorem State.leaveBox_cfg (s : State) : (s.leaveBox).cfg = s.cfg := rfl
@[simp] theorem State.leaveBox_init (s : State) : (s.leaveBox).init = s.init := rfl
@[simp] theorem State.leaveBox_dedup (s : State) : (s.leaveBox).dedup = s.dedup := rfl
@[simp] theorem State.leaveBox_disabled (s : State) : (s.leaveBox).disabled = s.disabled := rfl
@[simp] theorem State.leaveBox_d608 (s : State) : (s.leaveBox).d608 = s.d608 := rfl
@[simp] theorem State.leaveBox_d708 (s : State) : (s.leaveBox).d708 = s.d708 := rfl
@[simp] theorem State.leaveBox_phase (s : State) : (s.leaveBox).phase = .boxHeader := rfl
@[simp] theorem State.leaveBox_tx (s : State) :
    (s.leaveBox).tx = { s.tx with frames := onTop (fun f => { f with pos := s.tx.box.stop }) s.tx.frames } := rfl
@[simp] theorem State.leaveBox_fieldOut (s : State) : (s.leaveBox).fieldOut = s.fieldOut := rfl
@[simp] theorem State.leaveBox_inbox (s : State) : (s.leaveBox).inbox = s.inbox := rfl
@[simp] theorem State.leaveBox_outbox (s : State) : (s.leaveBox).outbox = s.outbox := rfl

/-! ### Operations that decide -/

/-- Acting on a channel writes that channel and the bad-frame count of the 608 decoder, and appends the code's cues and events. -/
theorem State.onChan_eq (s : State) (k : BitVec 2) (f : Chan608 → Eff608) :
    s.onChan k f =
      { s with
        d608 := { s.d608 with
          badFrames := 0
          chan := s.d608.chan.set k.toNat (f (s.d608.chan[k.toNat]'k.isLt)).ch k.isLt }
        tx := { s.tx with
          cues := s.tx.cues ++ (f (s.d608.chan[k.toNat]'k.isLt)).cues
          events := s.tx.events ++ (f (s.d608.chan[k.toNat]'k.isLt)).events } } := rfl

/-- A control pair writes the field's current channel and the channel it names, and nothing else of the 608 decoder. -/
theorem State.control608_eq (s : State) (chan : BitVec 1) (v : Pair) (f : BitVec 2 → Chan608 → Eff608) :
    s.control608 chan v f =
      (s.routeControl chan).onChan (chanIndex s.tx.feed.field chan)
        fun c => f (chanIndex s.tx.feed.field chan) { c with lastCP := some v } := rfl

/-- Acting on the current window changes nothing when there is none; else it writes that window and appends its cues. -/
theorem State.onCurrent_cases (s : State) (f : Window → Window × List Cue) :
    (s.curService.curWin = none ∧ s.onCurrent f = s) ∨
    ∃ x w, s.curService.curWin = some (x, w) ∧
      s.onCurrent f =
        (s.putService { s.curService with win := s.curService.win.set x.toNat (some (f w).1) x.isLt }).emitCues (f w).2 := by
  unfold State.onCurrent
  split
  · next h => exact .inl ⟨h, rfl⟩
  · next x w h => exact .inr ⟨x, w, h, rfl⟩

/-- The current window is the one the pointer names. -/
theorem Service.curWin_eq_some {sv : Service} {x : BitVec 3} {w : Window} :
    sv.curWin = some (x, w) ↔ sv.current = some x ∧ (sv.win[x.toNat]'x.isLt) = some w := by
  unfold Service.curWin
  constructor
  · intro h
    obtain ⟨y, hy, h⟩ := Option.bind_eq_some_iff.mp h
    obtain ⟨v, hv, h⟩ := Option.map_eq_some_iff.mp h
    obtain ⟨rfl, rfl⟩ := Prod.mk.inj h
    exact ⟨hy, hv⟩
  · rintro ⟨h, h'⟩
    rw [h]
    simp [h']

/-- A window after acting on a set of windows: that of a selected one is what the action makes of it, any other stays. -/
theorem State.onWindows_win (s : State) (sel : Nat → Bool) (f : Window → Option Window × List Cue) :
    ∃ cues win, s.onWindows sel f = (s.putService { s.curService with win := win }).emitCues cues ∧
      ∀ i : Fin 8, win[i] = if sel i then s.curService.win[i].bind fun w => (f w).1 else s.curService.win[i] := by
  refine ⟨_, _, rfl, fun i => ?_⟩
  simp

/-- A box decoder either fails with a BoundsError, or gives its struct and leaves the box. -/
theorem State.decodeBox_cases {α : Type} (s : State) (p : Rd α) (k : α → State → State) :
    (∃ e, p s.boxReader = .error e ∧ s.decodeBox p k = s.takeBounds e) ∨
    ∃ v r, p s.boxReader = .ok (v, r) ∧ s.decodeBox p k = k v s.leaveBox := by
  unfold State.decodeBox
  split
  · next e h => exact .inl ⟨e, h, rfl⟩
  · next v r h => exact .inr ⟨v, r, h, rfl⟩

/-- A header either closes its level (41 R151, D7) or opens a box clamped to its enclosing range. -/
theorem State.openBox_cases (s : State) (size : Nat) (type : Fourcc) (f : Frame) (r : List Frame) (h : s.tx.frames = f :: r) :
    (size < f.pos - s.tx.box.start ∧
      s.openBox size type =
        { s with
          phase := .boxHeader
          tx := { s.tx with frames := { f with count := f.count.map (· - 1), pos := f.stop } :: r } }) ∨
    (f.pos - s.tx.box.start ≤ size ∧
      s.openBox size type =
        { s with
          phase := .boxDispatch
          tx := { s.tx with
            frames := { f with count := f.count.map (· - 1) } :: r
            acc := noteFirstEntry f.count.isSome type s.tx.acc
            box := { start := s.tx.box.start, size := size, type := type, base := f.pos, pos := f.pos,
                     stop := min (s.tx.box.start + size) f.stop, version := none, flags := none } } }) := by
  unfold State.openBox
  rw [h]
  by_cases hs : size < f.pos - s.tx.box.start
  · left
    simp [hs]
  · right
    simp [hs]
    omega

/-- The start of the NAL walk: nothing, or the walk at a position inside the mdat. -/
theorem State.startWalk_cases (s : State) (moof bmdt ts : Nat) (samples : List Sample) :
    s.startWalk moof bmdt ts samples = s ∨
    ∃ d : Nat, (d : Int) = dataStart moof s.tx.slots.truns s.tx.mdat.start ∧ d ≤ s.tx.mdat.length ∧ samples ≠ [] ∧
      s.startWalk moof bmdt ts samples =
        { s with
          phase := .nal
          tx := { s.tx with
            walk := { pos := s.tx.mdat.start + d, stop := s.tx.mdat.start + s.tx.mdat.length, rest := samples, time := bmdt,
                      used := 0, ts := ts } } } := by
  by_cases h : samples.isEmpty ∨ dataStart moof s.tx.slots.truns s.tx.mdat.start < 0 ∨
      dataStart moof s.tx.slots.truns s.tx.mdat.start > s.tx.mdat.length
  · exact .inl (if_pos h)
  · refine .inr ⟨(dataStart moof s.tx.slots.truns s.tx.mdat.start).toNat, ?_, ?_, ?_, if_neg h⟩
    · omega
    · omega
    · intro e
      exact h (.inl (by simp [e]))

/-- A queued pair: one entry under scheme CEA608, none under CEA708 (43 R249, R250). -/
theorem State.queue608_cases (s : State) (field : BitVec 1) (d1 d2 : Byte) :
    (s.cfg.scheme = .cea708 ∧ s.queue608 field d1 d2 = s) ∨
    (s.cfg.scheme = .cea608 ∧ s.queue608 field d1 d2 =
      { s with
        tx := { s.tx with
          q608 := s.tx.q608 ++ [{ pts := s.tx.sei.pts, field := field, b1 := d1, b2 := d2, order := s.tx.order }]
          order := s.tx.order + 1 } }) := by
  unfold State.queue608
  cases h : s.cfg.scheme
  · exact .inr ⟨rfl, rfl⟩
  · exact .inl ⟨rfl, rfl⟩

/-- Two queued bytes: under scheme CEA708, none under CEA608 (43 R249, R251). -/
theorem State.queue708_cases (s : State) (start : Bool) (d1 d2 : Byte) :
    (s.cfg.scheme = .cea608 ∧ s.queue708 start d1 d2 = s) ∨
    (s.cfg.scheme = .cea708 ∧ s.queue708 start d1 d2 =
      { s with
        tx := { s.tx with
          q708 := s.tx.q708 ++
            [{ pts := s.tx.sei.pts, start := start, value := d1, order := s.tx.order },
             { pts := s.tx.sei.pts, start := false, value := d2, order := s.tx.order + 1 }]
          order := s.tx.order + 2 } }) := by
  unfold State.queue708
  cases h : s.cfg.scheme
  · exact .inl ⟨rfl, rfl⟩
  · exact .inr ⟨rfl, rfl⟩

/-- The configuration is not written by the end of an init pass or by a new SUBMIT. -/
@[simp] theorem State.checkDisabled_cfg (s : State) : s.checkDisabled.cfg = s.cfg := by
  unfold State.checkDisabled
  split <;> rfl

@[simp] theorem State.checkSegment_cfg (s : State) : s.checkSegment.cfg = s.cfg := by
  unfold State.checkSegment
  split
  · rfl
  · split
    · simp
    · rfl

@[simp] theorem State.checkPeriod_cfg (s : State) (p : Str) : (s.checkPeriod p).cfg = s.cfg := by
  unfold State.checkPeriod
  split <;> rfl

/-- The disable check touches neither decoder. -/
@[simp] theorem State.checkDisabled_d608 (s : State) : s.checkDisabled.d608 = s.d608 := by
  unfold State.checkDisabled
  split <;> rfl

@[simp] theorem State.checkDisabled_d708 (s : State) : s.checkDisabled.d708 = s.d708 := by
  unfold State.checkDisabled
  split <;> rfl

/-! ### Maps -/

/-- Reading a map after a write: the written value at its key, the old value elsewhere. -/
theorem mapGet_mapPut {n : Nat} {α : Type} (k j : BitVec n) (v : α) (m : List (BitVec n × α)) :
    mapGet j (mapPut k v m) = if j = k then some v else mapGet j m := by
  unfold mapGet
  induction m with
  | nil => by_cases h : j = k <;> simp [mapPut, h]
  | cons p r ih =>
    obtain ⟨k', v'⟩ := p
    unfold mapPut
    by_cases hk : k = k'
    · subst hk
      by_cases h : j = k
      · simp [h]
      · have hb : (j == k) = false := by simpa using h
        simp [List.lookup_cons, hb, h]
    · by_cases hlt : k.toNat < k'.toNat
      · simp only [hk, hlt, if_true, if_false]
        by_cases h : j = k
        · simp [h]
        · have hb : (j == k) = false := by simpa using h
          simp [List.lookup_cons, hb, h]
      · simp only [hk, hlt, if_false]
        by_cases h : j = k'
        · subst h
          have : ¬ j = k := fun e => hk e.symm
          simp [this]
        · have hb : (j == k') = false := by simpa using h
          simp only [List.lookup_cons, hb]
          exact ih

/-- The service that a write of the current service leaves readable. -/
@[simp] theorem State.curService_putService (s : State) (sv : Service) : (s.putService sv).curService = sv := by
  simp [State.curService, mapGet_mapPut]

@[simp] theorem State.curService_emitCues (s : State) (cs : List Cue) : (s.emitCues cs).curService = s.curService := rfl

@[simp] theorem State.curService_logEvent (s : State) (e : Event) : (s.logEvent e).curService = s.curService := rfl

/-- Emitting a window if it is visible gives its cue and advances its start (46 R454), and changes nothing else of it. -/
theorem emitIfVisible_eq (cfg : Params) (n : BitVec 6) (pts : Rat) (w : Window) :
    emitIfVisible cfg n pts w =
      ({ w with start := if w.visible && (cue708 cfg n w pts).isSome then pts else w.start },
       if w.visible then (cue708 cfg n w pts).toList else []) := by
  unfold emitIfVisible emitWin
  cases h : w.visible
  · cases w
    simp_all
  · cases h2 : cue708 cfg n w pts <;> cases w <;> simp_all

/-- Writing a cell writes that cell, if the memory holds it, and no other (45 R401). -/
theorem Window.cell_setCell (w : Window) (r c r' c' : Nat) (x : Option Cell708) :
    (w.setCell r c x).cell r' c' =
      if r' = r ∧ c' = c ∧ ((w.mem[r]?).bind (·[c]?)).isSome = true then x else w.cell r' c' := by
  unfold Window.setCell Window.cell
  simp only [List.getElem?_modify]
  by_cases hr : r = r'
  · subst hr
    cases h : w.mem[r]? with
    | none => simp
    | some row =>
      by_cases hc : c = c'
      · subst hc
        by_cases hl : c < row.length <;> simp [hl]
      · simp [hc, Ne.symm hc]
  · simp [hr, Ne.symm hr]

/-- A blank row has no cell. -/
@[simp] theorem WinRow.join_blank (row : WinRow) (c : Nat) : (row.blank)[c]?.join = none := by
  unfold WinRow.blank
  by_cases h : c < row.length <;> simp [h]

/-- Emptying a row empties its cells and no other (45 R376). -/
theorem Window.cell_clearRow (w : Window) (r r' c' : Nat) : (w.clearRow r).cell r' c' = if r' = r then none else w.cell r' c' := by
  unfold Window.clearRow Window.cell
  simp only [List.getElem?_modify]
  by_cases hr : r = r'
  · subst hr
    cases h : w.mem[r]? <;> simp
  · simp [hr, Ne.symm hr]

/-- Emptying the memory leaves no cell (45 R377, R381). -/
@[simp] theorem Window.cell_clearMem (w : Window) (r c : Nat) : (w.clearMem).cell r c = none := by
  unfold Window.clearMem Window.cell
  cases h : w.mem[r]? <;> simp [h]

/-- Scrolling moves the rows of the window up by one, empties the last and leaves the others (45 R402). -/
theorem Window.cell_scrollUp (w : Window) (r c : Nat) :
    (w.scrollUp).cell r c = if r + 1 < w.rowCount then w.cell (r + 1) c else if r + 1 = w.rowCount then none else w.cell r c := by
  unfold Window.scrollUp Window.cell
  simp only [List.getElem?_mapIdx]
  cases h : w.mem[r]? with
  | none =>
    have : w.mem[r + 1]? = none := by
      simp only [List.getElem?_eq_none_iff] at h ⊢
      omega
    simp [this]
  | some row =>
    by_cases h1 : r + 1 < w.rowCount
    · cases h2 : w.mem[r + 1]? <;> simp [h1]
    · by_cases h2 : r + 1 = w.rowCount <;> simp [h1, h2]

/-- Other services are unchanged by a write of the current one (45 R369). -/
theorem State.service_putService (s : State) (sv : Service) (n : BitVec 6) (h : n ≠ s.tx.feed.svc) :
    mapGet n (s.putService sv).d708.svc = mapGet n s.d708.svc := by
  simp [mapGet_mapPut, h]

/-- Recording a fragment's timing adds one record for a moof with a tfdt that has none yet, and otherwise changes nothing (42 R194, 43
R236). -/
theorem Tx.recordTiming_cases (t : Tx) (ts : Nat) (samples : List Sample) :
    (t.recordTiming ts samples = t ∧ (t.slots.tfdt = none ∨ t.slots.timed = true)) ∨
    ∃ bmdt, t.slots.tfdt = some bmdt ∧ t.slots.timed = false ∧
      t.recordTiming ts samples =
        { t with timing := t.timing ++ [timingRecord bmdt ts samples], slots := { t.slots with timed := true } } := by
  unfold Tx.recordTiming
  cases h : t.slots.tfdt <;> cases h2 : t.slots.timed <;> simp

end Sys2Proof.Machine
end

