-- ==== Sys2Proof/Laws/PerInstr.lean ====
section
/-! SUPPORT. Facts about every instruction as syntax, one lemma for each constructor. -/

namespace Sys2Proof.Laws.EncodesToBytes

/-- An instruction's encoding has at least one byte, except the rejected payload that is empty (43 R247). -/
def Statement (i : Instr) : Prop := i = .t35Rejected [] ∨ 0 < (encode i).length

theorem boxSizeLiteral : ∀ a b, Statement (.boxSizeLiteral a b) := fun _ _ => .inr (Nat.succ_pos _)

theorem boxSizeRest : ∀ a, Statement (.boxSizeRest a) := fun _ => .inr (Nat.succ_pos _)

theorem boxLargesize : ∀ a b, Statement (.boxLargesize a b) := fun _ _ => .inr (Nat.succ_pos _)

theorem boxFullVf : ∀ a b, Statement (.boxFullVf a b) := fun _ _ => .inr (Nat.succ_pos _)

theorem boxUnregistered : ∀ a, Statement (.boxUnregistered a) := fun _ => .inr (Nat.succ_pos _)

theorem boxMoov : Statement .boxMoov := .inr (Nat.succ_pos _)

theorem boxTrak : Statement .boxTrak := .inr (Nat.succ_pos _)

theorem boxMdia : Statement .boxMdia := .inr (Nat.succ_pos _)

theorem boxMinf : Statement .boxMinf := .inr (Nat.succ_pos _)

theorem boxStbl : Statement .boxStbl := .inr (Nat.succ_pos _)

theorem boxMvex : Statement .boxMvex := .inr (Nat.succ_pos _)

theorem boxSinf : Statement .boxSinf := .inr (Nat.succ_pos _)

theorem boxStsd : Statement .boxStsd := .inr (Nat.succ_pos _)

theorem boxAvc1 : Statement .boxAvc1 := .inr (Nat.succ_pos _)

theorem boxAvc3 : Statement .boxAvc3 := .inr (Nat.succ_pos _)

theorem boxHvc1 : Statement .boxHvc1 := .inr (Nat.succ_pos _)

theorem boxHev1 : Statement .boxHev1 := .inr (Nat.succ_pos _)

theorem boxEncv : Statement .boxEncv := .inr (Nat.succ_pos _)

theorem boxFrma : Statement .boxFrma := .inr (Nat.succ_pos _)

theorem boxMvhd : Statement .boxMvhd := .inr (Nat.succ_pos _)

theorem boxTkhd : Statement .boxTkhd := .inr (Nat.succ_pos _)

theorem boxMdhd : Statement .boxMdhd := .inr (Nat.succ_pos _)

theorem boxTrex : Statement .boxTrex := .inr (Nat.succ_pos _)

theorem boxMoof : Statement .boxMoof := .inr (Nat.succ_pos _)

theorem boxTraf : Statement .boxTraf := .inr (Nat.succ_pos _)

theorem boxTfhd : Statement .boxTfhd := .inr (Nat.succ_pos _)

theorem boxTfdt : Statement .boxTfdt := .inr (Nat.succ_pos _)

theorem boxTrun : Statement .boxTrun := .inr (Nat.succ_pos _)

theorem boxMdat : Statement .boxMdat := .inr (Nat.succ_pos _)

theorem boxEmsg : Statement .boxEmsg := .inr (Nat.succ_pos _)

theorem boxSidx : Statement .boxSidx := .inr (Nat.succ_pos _)

theorem boxElst : Statement .boxElst := .inr (Nat.succ_pos _)

theorem boxTenc : Statement .boxTenc := .inr (Nat.succ_pos _)

theorem boxPrft : Statement .boxPrft := .inr (Nat.succ_pos _)

theorem boxEmsgV1 : Statement .boxEmsgV1 := .inr (Nat.succ_pos _)

theorem nalH264Sei : ∀ a b, Statement (.nalH264Sei a b) := fun _ _ => .inr (Nat.succ_pos _)

theorem nalH264Other : ∀ a b, Statement (.nalH264Other a b) := fun _ _ => .inr (Nat.succ_pos _)

theorem nalH265SeiPre : ∀ a b c, Statement (.nalH265SeiPre a b c) := fun _ _ _ => .inr (Nat.succ_pos _)

theorem nalH265SeiSuf : ∀ a b c, Statement (.nalH265SeiSuf a b c) := fun _ _ _ => .inr (Nat.succ_pos _)

theorem nalH265Other : ∀ a b, Statement (.nalH265Other a b) := fun _ _ => .inr (Nat.succ_pos _)

theorem nalShort : ∀ a, Statement (.nalShort a) := fun _ => .inr (Nat.succ_pos _)

theorem seiT35 : ∀ a, Statement (.seiT35 a) := fun _ => .inr (by simp [encode, ffBytes])

theorem seiOther : ∀ a b, Statement (.seiOther a b) := fun _ _ => .inr (by simp [encode, ffBytes])

theorem t35AtscCc : ∀ a b c, Statement (.t35AtscCc a b c) := fun _ _ _ => .inr (Nat.succ_pos _)

theorem t35Rejected : ∀ a, Statement (.t35Rejected a)
  | [] => .inl rfl
  | _ :: _ => .inr (Nat.succ_pos _)

theorem cc608F0 : ∀ a b c, Statement (.cc608F0 a b c) := fun _ _ _ => .inr (Nat.succ_pos _)

theorem cc608F1 : ∀ a b c, Statement (.cc608F1 a b c) := fun _ _ _ => .inr (Nat.succ_pos _)

theorem ccDtvccData : ∀ a b c, Statement (.ccDtvccData a b c) := fun _ _ _ => .inr (Nat.succ_pos _)

theorem ccDtvccStart : ∀ a b c, Statement (.ccDtvccStart a b c) := fun _ _ _ => .inr (Nat.succ_pos _)

theorem ccInvalid : ∀ a b c d, Statement (.ccInvalid a b c d) := fun _ _ _ _ => .inr (Nat.succ_pos _)

theorem bad608 : ∀ a b, Statement (.bad608 a b) := fun _ _ => .inr (Nat.succ_pos _)

theorem null608 : Statement .null608 := .inr (Nat.succ_pos _)

theorem dup608 : ∀ a b c, Statement (.dup608 a b c) := fun _ _ _ => .inr (Nat.succ_pos _)

theorem pac608 : ∀ a b c d, Statement (.pac608 a b c d) := fun _ _ _ _ => .inr (Nat.succ_pos _)

theorem midrow608 : ∀ a b c, Statement (.midrow608 a b c) := fun _ _ _ => .inr (Nat.succ_pos _)

theorem bg608 : ∀ a b, Statement (.bg608 a b) := fun _ _ => .inr (Nat.succ_pos _)

theorem bgBlack608 : ∀ a, Statement (.bgBlack608 a) := fun _ => .inr (Nat.succ_pos _)

theorem special608 : ∀ a b, Statement (.special608 a b) := fun _ _ => .inr (Nat.succ_pos _)

theorem extended608 : ∀ a b c, Statement (.extended608 a b c) := fun _ _ _ => .inr (Nat.succ_pos _)

theorem rcl608 : ∀ a b, Statement (.rcl608 a b) := fun _ _ => .inr (Nat.succ_pos _)

theorem bs608 : ∀ a b, Statement (.bs608 a b) := fun _ _ => .inr (Nat.succ_pos _)

theorem aof608 : ∀ a b, Statement (.aof608 a b) := fun _ _ => .inr (Nat.succ_pos _)

theorem aon608 : ∀ a b, Statement (.aon608 a b) := fun _ _ => .inr (Nat.succ_pos _)

theorem der608 : ∀ a b, Statement (.der608 a b) := fun _ _ => .inr (Nat.succ_pos _)

theorem ru2608 : ∀ a b, Statement (.ru2608 a b) := fun _ _ => .inr (Nat.succ_pos _)

theorem ru3608 : ∀ a b, Statement (.ru3608 a b) := fun _ _ => .inr (Nat.succ_pos _)

theorem ru4608 : ∀ a b, Statement (.ru4608 a b) := fun _ _ => .inr (Nat.succ_pos _)

theorem fon608 : ∀ a b, Statement (.fon608 a b) := fun _ _ => .inr (Nat.succ_pos _)

theorem rdc608 : ∀ a b, Statement (.rdc608 a b) := fun _ _ => .inr (Nat.succ_pos _)

theorem tr608 : ∀ a b, Statement (.tr608 a b) := fun _ _ => .inr (Nat.succ_pos _)

theorem rtd608 : ∀ a b, Statement (.rtd608 a b) := fun _ _ => .inr (Nat.succ_pos _)

theorem edm608 : ∀ a b, Statement (.edm608 a b) := fun _ _ => .inr (Nat.succ_pos _)

theorem cr608 : ∀ a b, Statement (.cr608 a b) := fun _ _ => .inr (Nat.succ_pos _)

theorem enm608 : ∀ a b, Statement (.enm608 a b) := fun _ _ => .inr (Nat.succ_pos _)

theorem eoc608 : ∀ a b, Statement (.eoc608 a b) := fun _ _ => .inr (Nat.succ_pos _)

theorem unrecognized608 : ∀ a b c, Statement (.unrecognized608 a b c) := fun _ _ _ => .inr (Nat.succ_pos _)

theorem basic608 : ∀ a b, Statement (.basic608 a b) := fun _ _ => .inr (Nat.succ_pos _)

theorem dtvccPacketStart : ∀ a b, Statement (.dtvccPacketStart a b) := fun _ _ => .inr (Nat.succ_pos _)

theorem dtvccData : ∀ a, Statement (.dtvccData a) := fun _ => .inr (Nat.succ_pos _)

theorem svcHeader : ∀ a b, Statement (.svcHeader a b) := fun _ _ => .inr (Nat.succ_pos _)

theorem svcExtended : ∀ a b c, Statement (.svcExtended a b c) := fun _ _ _ => .inr (Nat.succ_pos _)

theorem svcNullOrEmpty : ∀ a b, Statement (.svcNullOrEmpty a b) := fun _ _ => .inr (Nat.succ_pos _)

theorem c0Nop : ∀ a, Statement (.c0Nop a) := fun _ => .inr (Nat.succ_pos _)

theorem c0Bs : Statement .c0Bs := .inr (Nat.succ_pos _)

theorem c0Ff : Statement .c0Ff := .inr (Nat.succ_pos _)

theorem c0Cr : Statement .c0Cr := .inr (Nat.succ_pos _)

theorem c0Hcr : Statement .c0Hcr := .inr (Nat.succ_pos _)

theorem ext1 : Statement .ext1 := .inr (Nat.succ_pos _)

theorem g0 : ∀ a, Statement (.g0 a) := fun _ => .inr (Nat.succ_pos _)

theorem g0Note : Statement .g0Note := .inr (Nat.succ_pos _)

theorem cwx : ∀ a, Statement (.cwx a) := fun _ => .inr (Nat.succ_pos _)

theorem clw : ∀ a, Statement (.clw a) := fun _ => .inr (Nat.succ_pos _)

theorem dsw : ∀ a, Statement (.dsw a) := fun _ => .inr (Nat.succ_pos _)

theorem hdw : ∀ a, Statement (.hdw a) := fun _ => .inr (Nat.succ_pos _)

theorem tgw : ∀ a, Statement (.tgw a) := fun _ => .inr (Nat.succ_pos _)

theorem dlw : ∀ a, Statement (.dlw a) := fun _ => .inr (Nat.succ_pos _)

theorem dly : ∀ a, Statement (.dly a) := fun _ => .inr (Nat.succ_pos _)

theorem dlc : Statement .dlc := .inr (Nat.succ_pos _)

theorem rst : Statement .rst := .inr (Nat.succ_pos _)

theorem spa : ∀ a b, Statement (.spa a b) := fun _ _ => .inr (Nat.succ_pos _)

theorem spc : ∀ a b c, Statement (.spc a b c) := fun _ _ _ => .inr (Nat.succ_pos _)

theorem spl : ∀ a b, Statement (.spl a b) := fun _ _ => .inr (Nat.succ_pos _)

theorem c1Reserved : ∀ a, Statement (.c1Reserved a) := fun _ => .inr (Nat.succ_pos _)

theorem swa : ∀ a b c d, Statement (.swa a b c d) := fun _ _ _ _ => .inr (Nat.succ_pos _)

theorem dfx : ∀ a b c d e f g, Statement (.dfx a b c d e f g) := fun _ _ _ _ _ _ _ => .inr (Nat.succ_pos _)

theorem g1 : ∀ a, Statement (.g1 a) := fun _ => .inr (Nat.succ_pos _)

theorem c2Skip0 : ∀ a, Statement (.c2Skip0 a) := fun _ => .inr (Nat.succ_pos _)

theorem c2Skip1 : ∀ a b, Statement (.c2Skip1 a b) := fun _ _ => .inr (Nat.succ_pos _)

theorem c2Skip2 : ∀ a b c, Statement (.c2Skip2 a b c) := fun _ _ _ => .inr (Nat.succ_pos _)

theorem c2Skip3 : ∀ a b c d, Statement (.c2Skip3 a b c d) := fun _ _ _ _ => .inr (Nat.succ_pos _)

theorem g2 : ∀ a, Statement (.g2 a) := fun _ => .inr (Nat.succ_pos _)

theorem c3Skip4 : ∀ a b c d e, Statement (.c3Skip4 a b c d e) := fun _ _ _ _ _ => .inr (Nat.succ_pos _)

theorem c3Skip5 : ∀ a b c d e f, Statement (.c3Skip5 a b c d e f) := fun _ _ _ _ _ _ => .inr (Nat.succ_pos _)

theorem c3Skip0 : ∀ a, Statement (.c3Skip0 a) := fun _ => .inr (Nat.succ_pos _)

theorem g3 : ∀ a, Statement (.g3 a) := fun _ => .inr (Nat.succ_pos _)

end Sys2Proof.Laws.EncodesToBytes
end

