-- ==== Sys2Proof/Laws/Results.lean ====
section
/-! SUPPORT. What a control pair, a command on the current window and a command on selected windows do, in the terms of
Safety.lean. -/

namespace Sys2Proof.Machine

/-- A control pair does to its channel what its code does to the channel that remembers the pair. -/
theorem control608_result (s : State) (chan : BitVec 1) (v : Pair) (f : BitVec 2 → Chan608 → Eff608) (c : Chan608)
    (cues : List Cue) (events : List Event)
    (h : f (chanIndex s.tx.feed.field chan) (s.remembered chan v) = { ch := c, cues := cues, events := events }) :
    ControlResult s (s.control608 chan v f) chan c cues events := by
  have h2 : f (chanIndex s.tx.feed.field chan) { s.chan608 (chanIndex s.tx.feed.field chan) with lastCP := some v } =
    { ch := c, cues := cues, events := events } := h
  have hk : ∀ j : BitVec 2, j ≠ chanIndex s.tx.feed.field chan → (chanIndex s.tx.feed.field chan).toNat ≠ j.toNat :=
    fun j hj e => hj (BitVec.eq_of_toNat_eq e).symm
  rw [State.control608_eq, State.onChan_eq]
  simp only [State.chan608] at h2
  refine ⟨⟨?_, rfl, rfl, ?_⟩, ?_, ?_, ?_⟩
  · simp [Same608]
  · intro j hj
    simp [State.chan608, hk j hj]
  all_goals simp [State.chan608, h2]

/-- The pair of a miscellaneous code is the one its bytes spell. -/
theorem controlPair_misc : ∀ (chan ign : BitVec 1) (n : BitVec 4),
    controlPair chan (2#2 ++ ign) (miscB2 n) = miscPair chan ign n.toNat := by decide

/-- As `control608_result`, for a miscellaneous code. -/
theorem misc608_result (s : State) (chan ign : BitVec 1) (n : BitVec 4) (f : BitVec 2 → Chan608 → Eff608) (c : Chan608)
    (cues : List Cue) (events : List Event)
    (h : f (chanIndex s.tx.feed.field chan) (s.remembered chan (miscPair chan ign n.toNat)) =
      { ch := c, cues := cues, events := events }) :
    ControlResult s (s.misc608 n chan ign f) chan c cues events := by
  unfold State.misc608
  rw [controlPair_misc]
  exact control608_result s chan _ f c cues events h

/-- A command on the current window does to it what `f` says, and nothing else. -/
theorem onCurrent_result (s : State) (x : BitVec 3) (w : Window) (h : s.IsCurrent x w) (f : Window → Window × List Cue) :
    WindowResult s (s.onCurrent f) x (f w).1 (f w).2 := by
  have hw := (Service.curWin_eq_some (sv := s.curService)).2 h
  rcases s.onCurrent_cases f with ⟨h1, _⟩ | ⟨x', w', h1, h2⟩
  · simp [h1] at hw
  · rw [h1] at hw
    cases hw
    rw [h2]
    have hx : ∀ y : BitVec 3, y ≠ x → x.toNat ≠ y.toNat := fun y hy e => hy (BitVec.eq_of_toNat_eq e).symm
    refine ⟨⟨⟨?_, by simp, ?_⟩, ?_, by simp⟩, by simp [State.curWindow], by simp⟩
    · simp [Same708]
      rfl
    · intro n hn
      simp [State.service, mapGet_mapPut, hn]
    · intro y hy
      simp [State.curWindow, hx y hy]

/-- With no current window, a command on it changes nothing (45 R373). -/
theorem onCurrent_none (s : State) (h : s.curService.current = none) (f : Window → Window × List Cue) : s.onCurrent f = s := by
  simp [State.onCurrent, Service.curWin, h]

/-- A command on selected windows does to each present one what `f` says, and nothing else. -/
theorem onWindows_result (s : State) (sel : Nat → Bool) (f : Window → Option Window × List Cue) :
    ServiceFrame s (s.onWindows sel f) ∧ (s.onWindows sel f).curService.current = s.curService.current ∧
      ∀ y : BitVec 3, (s.onWindows sel f).curWindow y =
        if sel y.toNat then (s.curWindow y).bind fun w => (f w).1 else s.curWindow y := by
  obtain ⟨cues, win, h, hw⟩ := s.onWindows_win sel f
  rw [h]
  refine ⟨⟨?_, by simp, ?_⟩, by simp, fun y => ?_⟩
  · simp [Same708]
    rfl
  · intro n hn
    simp [State.service, mapGet_mapPut, hn]
  · have := hw ⟨y.toNat, y.isLt⟩
    simp only [Fin.getElem_fin] at this
    simp [State.curWindow, this]

end Sys2Proof.Machine
end

