-- ==== Sys2Proof/Laws/Step.lean ====
section
/-! SUPPORT. What one step can do, said once. -/

namespace Sys2Proof.Machine

/-- A step makes a control transition, rejects bytes that do not fit, or runs the instruction at the cursor. -/
theorem step_cases (s : State) :
    (s.fetchPoint = none ∧ step s = .next s.control) ∨
    (∃ l bs e, s.fetchPoint = some (l, bs) ∧ decode l bs = .error e ∧ step s = .next (s.reject e)) ∨
    (∃ l bs i n, s.fetchPoint = some (l, bs) ∧ decode l bs = .ok (i, n) ∧ step s = exec i (s.advance n)) := by
  unfold step
  rcases hf : s.fetchPoint with _ | ⟨l, bs⟩
  · exact .inl ⟨rfl, rfl⟩
  · rcases hd : decode l bs with e | ⟨i, n⟩
    · exact .inr (.inl ⟨l, bs, e, rfl, hd, by simp only [hd]⟩)
    · exact .inr (.inr ⟨l, bs, i, n, rfl, hd, by simp only [hd]⟩)

/-- The cursor's advance writes the transient state only. -/
theorem State.advance_eq (s : State) (n : Nat) : ∃ t : Tx, s.advance n = s.setTx t := by
  unfold State.advance
  cases s.phase
  all_goals exact ⟨_, rfl⟩

/-- The configuration is not written by the cursor's advance. -/
@[simp] theorem State.advance_cfg (s : State) (n : Nat) : (s.advance n).cfg = s.cfg := by
  obtain ⟨t, h⟩ := s.advance_eq n
  simp [h]

/-- The 608 decoder is not written by the cursor's advance. -/
@[simp] theorem State.advance_d608 (s : State) (n : Nat) : (s.advance n).d608 = s.d608 := by
  obtain ⟨t, h⟩ := s.advance_eq n
  simp [h]

/-- The 708 decoder is not written by the cursor's advance. -/
@[simp] theorem State.advance_d708 (s : State) (n : Nat) : (s.advance n).d708 = s.d708 := by
  obtain ⟨t, h⟩ := s.advance_eq n
  simp [h]

/-- The stage is not changed by the cursor's advance. -/
@[simp] theorem State.advance_phase (s : State) (n : Nat) : (s.advance n).phase = s.phase := by
  obtain ⟨t, h⟩ := s.advance_eq n
  simp [h]

end Sys2Proof.Machine
end

