-- ==== Sys2Proof/Tests/Slice0.lean ====
section
/-! SUPPORT. The model's own tests: ill-formed terms are refused; words written out from spec/30_encoding.md decode to their
instructions; single steps on small states give what the vectors of spec/95_test_vectors.md and the examples of the rules say; and
for each statement with hypotheses a state that meets them. -/

set_option Elab.async false

namespace Sys2Proof.Tests

open Sys2Proof Sys2Proof.Machine

/-! ## Ill-formed terms -/

theorem test_wf_refuses_boxSizeLiteral : ∀ i ∈ [Instr.boxSizeLiteral 0 0, .boxSizeLiteral 1 0], i.wf = false := by decide

theorem test_wf_refuses_nalH264Sei : ∀ i ∈ [Instr.nalH264Sei 0 0], i.wf = false := by decide

theorem test_wf_refuses_nalH264Other : ∀ i ∈ [Instr.nalH264Other 0 0x65, .nalH264Other 5 0x66], i.wf = false := by decide

theorem test_wf_refuses_nalH265SeiPre : ∀ i ∈ [Instr.nalH265SeiPre 1 0 0], i.wf = false := by decide

theorem test_wf_refuses_nalH265SeiSuf : ∀ i ∈ [Instr.nalH265SeiSuf 1 0 0], i.wf = false := by decide

theorem test_wf_refuses_nalH265Other : ∀ i ∈ [Instr.nalH265Other 1 0x40, .nalH265Other 2 0x4E, .nalH265Other 2 0x50], i.wf = false := by decide

theorem test_wf_refuses_nalShort : ∀ i ∈ [Instr.nalShort 2], i.wf = false := by decide

theorem test_wf_refuses_seiOther : ∀ i ∈ [Instr.seiOther 4 0], i.wf = false := by decide

theorem test_wf_refuses_t35Rejected : ∀ i ∈ [Instr.t35Rejected [0xB5, 0x00, 0x31, 0x47, 0x41, 0x39, 0x34, 0x03, 0x41], .t35Rejected (List.replicate 10 0)], i.wf = false := by decide

theorem test_wf_refuses_bad608 : ∀ i ∈ [Instr.bad608 0x94 0x20], i.wf = false := by decide

theorem test_wf_refuses_unrecognized608 : ∀ i ∈ [Instr.unrecognized608 0 4 0x20], i.wf = false := by decide

theorem test_wf_refuses_basic608 : ∀ i ∈ [Instr.basic608 0x14 0x20, .basic608 0 0], i.wf = false := by decide

theorem test_wf_refuses_svcHeader : ∀ i ∈ [Instr.svcHeader 0 1, .svcHeader 7 1, .svcHeader 1 0], i.wf = false := by decide

theorem test_wf_refuses_svcExtended : ∀ i ∈ [Instr.svcExtended 0 0 9], i.wf = false := by decide

theorem test_wf_refuses_svcNullOrEmpty : ∀ i ∈ [Instr.svcNullOrEmpty 1 1], i.wf = false := by decide

theorem test_wf_refuses_c0Nop : ∀ i ∈ [Instr.c0Nop 0x08, .c0Nop 0x0C, .c0Nop 0x0D, .c0Nop 0x0E, .c0Nop 0x10, .c0Nop 0x20], i.wf = false := by decide

theorem test_wf_refuses_g0 : ∀ i ∈ [Instr.g0 0x1F, .g0 0x7F], i.wf = false := by decide

theorem test_wf_refuses_c1Reserved : ∀ i ∈ [Instr.c1Reserved 0x92, .c1Reserved 0x97], i.wf = false := by decide

theorem test_wf_refuses_g1 : ∀ i ∈ [Instr.g1 0x9F], i.wf = false := by decide

theorem test_wf_refuses_g2 : ∀ i ∈ [Instr.g2 0x1F, .g2 0x80], i.wf = false := by decide

theorem test_wf_refuses_g3 : ∀ i ∈ [Instr.g3 0x9F], i.wf = false := by decide


/-! ## Written-out words (30_encoding.md), one for every constructor -/

theorem test_decode_box_headers :
    ∀ p ∈ [(([0x00, 0x00, 0x00, 0x08, 0x66, 0x72, 0x65, 0x65] : List Byte), (.boxSizeLiteral 8 0x66726565 : Instr)),
        (([0x00, 0x00, 0x00, 0x00, 0x6D, 0x64, 0x61, 0x74] : List Byte), (.boxSizeRest 0x6D646174 : Instr)),
        (([0x00, 0x00, 0x00, 0x01, 0x6D, 0x64, 0x61, 0x74, 0x00, 0x00, 0x00, 0x00, 0x00, 0x00, 0x00, 0x18] : List Byte), (.boxLargesize 0x6D646174 0x18 : Instr))],
      (decode (Lang.boxHeader) p.1).toOption.map Prod.fst = some p.2 := by decide

theorem test_decode_box_version :
    ∀ p ∈ [(([0x01, 0x00, 0x00, 0x03] : List Byte), (.boxFullVf 1 3 : Instr))],
      (decode (Lang.boxVf) p.1).toOption.map Prod.fst = some p.2 := by decide

theorem test_decode_init_boxes :
    ∀ p ∈ [(([0x6D, 0x6F, 0x6F, 0x76] : List Byte), (.boxMoov : Instr)),
        (([0x74, 0x72, 0x61, 0x6B] : List Byte), (.boxTrak : Instr)),
        (([0x6D, 0x64, 0x69, 0x61] : List Byte), (.boxMdia : Instr)),
        (([0x6D, 0x69, 0x6E, 0x66] : List Byte), (.boxMinf : Instr)),
        (([0x73, 0x74, 0x62, 0x6C] : List Byte), (.boxStbl : Instr)),
        (([0x6D, 0x76, 0x65, 0x78] : List Byte), (.boxMvex : Instr)),
        (([0x73, 0x69, 0x6E, 0x66] : List Byte), (.boxSinf : Instr)),
        (([0x73, 0x74, 0x73, 0x64] : List Byte), (.boxStsd : Instr)),
        (([0x61, 0x76, 0x63, 0x31] : List Byte), (.boxAvc1 : Instr)),
        (([0x61, 0x76, 0x63, 0x33] : List Byte), (.boxAvc3 : Instr)),
        (([0x68, 0x76, 0x63, 0x31] : List Byte), (.boxHvc1 : Instr)),
        (([0x68, 0x65, 0x76, 0x31] : List Byte), (.boxHev1 : Instr)),
        (([0x65, 0x6E, 0x63, 0x76] : List Byte), (.boxEncv : Instr)),
        (([0x66, 0x72, 0x6D, 0x61] : List Byte), (.boxFrma : Instr)),
        (([0x6D, 0x76, 0x68, 0x64] : List Byte), (.boxMvhd : Instr)),
        (([0x74, 0x6B, 0x68, 0x64] : List Byte), (.boxTkhd : Instr)),
        (([0x6D, 0x64, 0x68, 0x64] : List Byte), (.boxMdhd : Instr)),
        (([0x74, 0x72, 0x65, 0x78] : List Byte), (.boxTrex : Instr)),
        (([0x66, 0x72, 0x65, 0x65] : List Byte), (.boxUnregistered 0x66726565 : Instr)),
        (([0x6D, 0x6F, 0x6F, 0x66] : List Byte), (.boxUnregistered 0x6D6F6F66 : Instr))],
      (decode (Lang.boxType .init false) p.1).toOption.map Prod.fst = some p.2 := by decide

theorem test_decode_media_boxes :
    ∀ p ∈ [(([0x6D, 0x6F, 0x6F, 0x66] : List Byte), (.boxMoof : Instr)),
        (([0x74, 0x72, 0x61, 0x66] : List Byte), (.boxTraf : Instr)),
        (([0x74, 0x66, 0x68, 0x64] : List Byte), (.boxTfhd : Instr)),
        (([0x74, 0x66, 0x64, 0x74] : List Byte), (.boxTfdt : Instr)),
        (([0x74, 0x72, 0x75, 0x6E] : List Byte), (.boxTrun : Instr)),
        (([0x6D, 0x64, 0x61, 0x74] : List Byte), (.boxMdat : Instr))],
      (decode (Lang.boxType .media false) p.1).toOption.map Prod.fst = some p.2 := by decide

theorem test_decode_field_boxes :
    ∀ p ∈ [(([0x65, 0x6D, 0x73, 0x67] : List Byte), (.boxEmsg : Instr)),
        (([0x73, 0x69, 0x64, 0x78] : List Byte), (.boxSidx : Instr)),
        (([0x65, 0x6C, 0x73, 0x74] : List Byte), (.boxElst : Instr)),
        (([0x74, 0x65, 0x6E, 0x63] : List Byte), (.boxTenc : Instr)),
        (([0x70, 0x72, 0x66, 0x74] : List Byte), (.boxPrft : Instr))],
      (decode (Lang.boxType .fields false) p.1).toOption.map Prod.fst = some p.2 := by decide

theorem test_decode_field_boxes_v1 :
    ∀ p ∈ [(([0x65, 0x6D, 0x73, 0x67] : List Byte), (.boxEmsgV1 : Instr)),
        (([0x73, 0x69, 0x64, 0x78] : List Byte), (.boxSidx : Instr))],
      (decode (Lang.boxType .fields true) p.1).toOption.map Prod.fst = some p.2 := by decide

theorem test_decode_nal_h264 :
    ∀ p ∈ [(([0x00, 0x00, 0x00, 0x10, 0x06] : List Byte), (.nalH264Sei 16 0 : Instr)),
        (([0x00, 0x00, 0x00, 0x10, 0x66] : List Byte), (.nalH264Sei 16 3 : Instr)),
        (([0x00, 0x00, 0x00, 0x10, 0x65] : List Byte), (.nalH264Other 16 0x65 : Instr)),
        (([0x00, 0x00, 0x00, 0x00, 0x65] : List Byte), (.nalShort 0 : Instr))],
      (decode (Lang.nal .h264) p.1).toOption.map Prod.fst = some p.2 := by decide

theorem test_decode_nal_h265 :
    ∀ p ∈ [(([0x00, 0x00, 0x00, 0x10, 0x4E] : List Byte), (.nalH265SeiPre 16 0 0 : Instr)),
        (([0x00, 0x00, 0x00, 0x10, 0xCF] : List Byte), (.nalH265SeiPre 16 1 1 : Instr)),
        (([0x00, 0x00, 0x00, 0x10, 0x50] : List Byte), (.nalH265SeiSuf 16 0 0 : Instr)),
        (([0x00, 0x00, 0x00, 0x10, 0x40] : List Byte), (.nalH265Other 16 0x40 : Instr)),
        (([0x00, 0x00, 0x00, 0x01, 0x4E] : List Byte), (.nalShort 1 : Instr))],
      (decode (Lang.nal .h265) p.1).toOption.map Prod.fst = some p.2 := by decide

theorem test_decode_sei :
    ∀ p ∈ [(([0xFF, 0xFF, 0x02, 0x01, 0xAA] : List Byte), (.seiOther 512 1 : Instr)),
        (([0x04, 0x03, 0xB5, 0x00, 0x31, 0x80] : List Byte), (.seiT35 3 : Instr)),
        (([0x04, 0xFF, 0x01] : List Byte), (.seiT35 256 : Instr))],
      (decode (Lang.sei) p.1).toOption.map Prod.fst = some p.2 := by decide

theorem test_decode_t35 :
    ∀ p ∈ [(([0xB5, 0x00, 0x31, 0x47, 0x41, 0x39, 0x34, 0x03, 0x5F] : List Byte), (.t35AtscCc 0 0 31 : Instr)),
        (([0xB5, 0x00, 0x31, 0x47, 0x41, 0x39, 0x34, 0x03, 0xE1] : List Byte), (.t35AtscCc 1 1 1 : Instr)),
        (([0xB5, 0x00, 0x31, 0x47, 0x41, 0x39, 0x34, 0x03, 0x01] : List Byte), (.t35Rejected [0xB5, 0x00, 0x31, 0x47, 0x41, 0x39, 0x34, 0x03, 0x01] : Instr)),
        (([0xB5, 0x00, 0x31] : List Byte), (.t35Rejected [0xB5, 0x00, 0x31] : Instr)),
        (([0xB4, 0x00, 0x31, 0x47, 0x41, 0x39, 0x34, 0x03] : List Byte), (.t35Rejected [0xB4, 0x00, 0x31, 0x47, 0x41, 0x39, 0x34, 0x03] : Instr))],
      (decode (Lang.t35) p.1).toOption.map Prod.fst = some p.2 := by decide

theorem test_decode_triples :
    ∀ p ∈ [(([0xFC, 0x94, 0x20] : List Byte), (.cc608F0 31 0x94 0x20 : Instr)),
        (([0xFD, 0xC8, 0xE9] : List Byte), (.cc608F1 31 0xC8 0xE9 : Instr)),
        (([0xFE, 0x41, 0x42] : List Byte), (.ccDtvccData 31 0x41 0x42 : Instr)),
        (([0xFF, 0x02, 0x21] : List Byte), (.ccDtvccStart 31 0x02 0x21 : Instr)),
        (([0xFA, 0x94, 0x20] : List Byte), (.ccInvalid 31 2 0x94 0x20 : Instr))],
      (decode (Lang.triple) p.1).toOption.map Prod.fst = some p.2 := by decide

theorem test_decode_pairs :
    ∀ p ∈ [(([0x14, 0x20] : List Byte), (.bad608 0x14 0x20 : Instr)),
        (([0xFF, 0xFF] : List Byte), (.bad608 0xFF 0xFF : Instr)),
        (([0x00, 0x00] : List Byte), (.bad608 0 0 : Instr)),
        (([0x80, 0x80] : List Byte), (.null608 : Instr)),
        (([0x94, 0xE0] : List Byte), (.pac608 0 9 0 0 : Instr)),
        (([0x97, 0xE0] : List Byte), (.pac608 0 15 0 0 : Instr)),
        (([0x91, 0xCE] : List Byte), (.pac608 0 2 7 0 : Instr)),
        (([0x94, 0xC1] : List Byte), (.pac608 0 8 0 1 : Instr)),
        (([0x91, 0x2F] : List Byte), (.midrow608 0 7 1 : Instr)),
        (([0x10, 0xA4] : List Byte), (.bg608 0 4 : Instr)),
        (([0x97, 0xAD] : List Byte), (.bgBlack608 0 : Instr)),
        (([0x91, 0x37] : List Byte), (.special608 0 7 : Instr)),
        (([0x92, 0xA1] : List Byte), (.extended608 0 0 1 : Instr)),
        (([0x94, 0x20] : List Byte), (.rcl608 0 0 : Instr)),
        (([0x1C, 0x20] : List Byte), (.rcl608 1 0 : Instr)),
        (([0x15, 0x20] : List Byte), (.rcl608 0 1 : Instr)),
        (([0x94, 0xA1] : List Byte), (.bs608 0 0 : Instr)),
        (([0x94, 0xA2] : List Byte), (.aof608 0 0 : Instr)),
        (([0x94, 0x23] : List Byte), (.aon608 0 0 : Instr)),
        (([0x94, 0xA4] : List Byte), (.der608 0 0 : Instr)),
        (([0x94, 0x25] : List Byte), (.ru2608 0 0 : Instr)),
        (([0x94, 0x26] : List Byte), (.ru3608 0 0 : Instr)),
        (([0x94, 0xA7] : List Byte), (.ru4608 0 0 : Instr)),
        (([0x94, 0xA8] : List Byte), (.fon608 0 0 : Instr)),
        (([0x94, 0x29] : List Byte), (.rdc608 0 0 : Instr)),
        (([0x94, 0x2A] : List Byte), (.tr608 0 0 : Instr)),
        (([0x94, 0xAB] : List Byte), (.rtd608 0 0 : Instr)),
        (([0x94, 0x2C] : List Byte), (.edm608 0 0 : Instr)),
        (([0x94, 0xAD] : List Byte), (.cr608 0 0 : Instr)),
        (([0x94, 0xAE] : List Byte), (.enm608 0 0 : Instr)),
        (([0x94, 0x2F] : List Byte), (.eoc608 0 0 : Instr)),
        (([0x97, 0xA1] : List Byte), (.unrecognized608 0 7 0x21 : Instr)),
        (([0xC8, 0xE9] : List Byte), (.basic608 0x48 0x69 : Instr)),
        (([0xE5, 0x80] : List Byte), (.basic608 0x65 0 : Instr))],
      (decode (Lang.pair none) p.1).toOption.map Prod.fst = some p.2 := by decide

theorem test_decode_duplicate :
    ∀ p ∈ [(([0x94, 0x2C] : List Byte), (.dup608 0 4 0x2C : Instr)),
        (([0x94, 0x2F] : List Byte), (.eoc608 0 0 : Instr))],
      (decode (Lang.pair (some 0x142C)) p.1).toOption.map Prod.fst = some p.2 := by decide

theorem test_decode_dtvcc_start :
    ∀ p ∈ [(([0x02] : List Byte), (.dtvccPacketStart 0 2 : Instr)),
        (([0xC0] : List Byte), (.dtvccPacketStart 3 0 : Instr))],
      (decode (Lang.dtvcc true) p.1).toOption.map Prod.fst = some p.2 := by decide

theorem test_decode_dtvcc_data :
    ∀ p ∈ [(([0x41] : List Byte), (.dtvccData 0x41 : Instr))],
      (decode (Lang.dtvcc false) p.1).toOption.map Prod.fst = some p.2 := by decide

theorem test_decode_service_blocks :
    ∀ p ∈ [(([0x22] : List Byte), (.svcHeader 1 2 : Instr)),
        (([0xE3, 0x29] : List Byte), (.svcExtended 3 0 41 : Instr)),
        (([0x00] : List Byte), (.svcNullOrEmpty 0 0 : Instr)),
        (([0x03] : List Byte), (.svcNullOrEmpty 0 3 : Instr)),
        (([0xE0] : List Byte), (.svcNullOrEmpty 7 0 : Instr))],
      (decode (Lang.svc) p.1).toOption.map Prod.fst = some p.2 := by decide

theorem test_decode_codes :
    ∀ p ∈ [(([0x00] : List Byte), (.c0Nop 0 : Instr)),
        (([0x1F] : List Byte), (.c0Nop 0x1F : Instr)),
        (([0x08] : List Byte), (.c0Bs : Instr)),
        (([0x0C] : List Byte), (.c0Ff : Instr)),
        (([0x0D] : List Byte), (.c0Cr : Instr)),
        (([0x0E] : List Byte), (.c0Hcr : Instr)),
        (([0x10] : List Byte), (.ext1 : Instr)),
        (([0x41] : List Byte), (.g0 0x41 : Instr)),
        (([0x7E] : List Byte), (.g0 0x7E : Instr)),
        (([0x7F] : List Byte), (.g0Note : Instr)),
        (([0x85] : List Byte), (.cwx 5 : Instr)),
        (([0x88, 0x81] : List Byte), (.clw 0x81 : Instr)),
        (([0x89, 0x01] : List Byte), (.dsw 1 : Instr)),
        (([0x8A, 0x01] : List Byte), (.hdw 1 : Instr)),
        (([0x8B, 0x01] : List Byte), (.tgw 1 : Instr)),
        (([0x8C, 0x01] : List Byte), (.dlw 1 : Instr)),
        (([0x8D, 0x05] : List Byte), (.dly 5 : Instr)),
        (([0x8E] : List Byte), (.dlc : Instr)),
        (([0x8F] : List Byte), (.rst : Instr)),
        (([0x90, 0x00, 0xC0] : List Byte), (.spa 0 0xC0 : Instr)),
        (([0x91, 0x2A, 0x00, 0x00] : List Byte), (.spc 0x2A 0 0 : Instr)),
        (([0x92, 0x01, 0x02] : List Byte), (.spl 1 2 : Instr)),
        (([0x93] : List Byte), (.c1Reserved 0x93 : Instr)),
        (([0x96] : List Byte), (.c1Reserved 0x96 : Instr)),
        (([0x97, 0x00, 0x00, 0x01, 0x00] : List Byte), (.swa 0 0 1 0 : Instr)),
        (([0x98, 0x38, 0x00, 0x00, 0x01, 0x1F, 0x01] : List Byte), (.dfx 0 0x38 0 0 1 0x1F 1 : Instr)),
        (([0xE9] : List Byte), (.g1 0xE9 : Instr)),
        (([0xA0] : List Byte), (.g1 0xA0 : Instr))],
      (decode (Lang.code) p.1).toOption.map Prod.fst = some p.2 := by decide

theorem test_decode_extended_codes :
    ∀ p ∈ [(([0x10, 0x07] : List Byte), (.c2Skip0 7 : Instr)),
        (([0x10, 0x08, 0xAA] : List Byte), (.c2Skip1 0 0xAA : Instr)),
        (([0x10, 0x17, 0x01, 0x02] : List Byte), (.c2Skip2 7 1 2 : Instr)),
        (([0x10, 0x1F, 0x01, 0x02, 0x03] : List Byte), (.c2Skip3 7 1 2 3 : Instr)),
        (([0x10, 0x25] : List Byte), (.g2 0x25 : Instr)),
        (([0x10, 0x80, 0x01, 0x02, 0x03, 0x04] : List Byte), (.c3Skip4 0 1 2 3 4 : Instr)),
        (([0x10, 0x8F, 0x01, 0x02, 0x03, 0x04, 0x05] : List Byte), (.c3Skip5 7 1 2 3 4 5 : Instr)),
        (([0x10, 0x9F] : List Byte), (.c3Skip0 15 : Instr)),
        (([0x10, 0xA0] : List Byte), (.g3 0xA0 : Instr))],
      (decode (Lang.codeExt) p.1).toOption.map Prod.fst = some p.2 := by decide

/-- Bytes that do not fit are rejected by name: what is missing, and where. -/
theorem test_decode_rejects :
    (decode .boxHeader [0x00, 0x00, 0x00], decode .boxHeader [0x00, 0x00, 0x00, 0x08, 0x66]) =
      (.error (.truncated 0 4), .error (.truncated 4 4)) ∧
    (decode .triple [0xFC, 0x94], decode .svc [0xE3]) = (.error (.truncated 2 1), .error (.truncated 1 1)) ∧
    (decode .code [0x98, 0x38, 0x00], decode .codeExt [0x10]) = (.error (.truncated 0 7), .error (.truncated 1 1)) := by decide

/-! ## Words of the opcode table -/

theorem test_table_words :
    decodeTableWord 32 0x6D6F6F76 = some .boxMoov ∧ decodeTableWord 32 0 = some (.boxSizeRest 0) ∧
    decodeTableWord 16 0x1420 = some (.rcl608 0 0) ∧ decodeTableWord 16 0x10A0 = some (.g3 0xA0) ∧
    decodeTableWord 8 0x4E = some (.nalH265SeiPre 2 0 0) ∧ decodeTableWord 8 0x8F = some .rst := by decide

theorem test_placed_word_is_fetched :
    ∀ p ∈ [(32, 0x74666474), (16, 0x1420), (16, 0x1080), (8, 0x98), (8, 0x06), (8, 0x05)],
      ((State.reset.withFetchWord p.1 p.2).fetchPoint.bind fun x => (decode x.1 x.2).toOption.map Prod.fst) =
        decodeTableWord p.1 p.2 := by decide +kernel


/-! ## Small states -/

/-- The next state of an outcome, if there is one. -/
def after : Out → Option State
  | .next t => some t
  | .fault _ => none
  | .refused _ => none

/-- What a step leaves, as `f` sees it. -/
def seen {α : Type} (i : Instr) (s : State) (f : State → α) : Option α := (after (exec i s)).map f

/-- A state in the box walk, at a box of the media space `bs` whose payload starts at 8. -/
def inBox (p : Pass) (version : Byte) (flags : BitVec 24) (bs : List Byte) : State :=
  { State.reset with
    phase := .boxDispatch
    tx := { Tx.empty with
      pass := p, initSpace := Memory.ofBytes bs, mediaSpace := Memory.ofBytes bs
      frames := [{ pos := 8, stop := bs.length, count := none, trak := none, encv := none }]
      box := { start := 0, size := bs.length, type := 0, base := 8, pos := 8, stop := bs.length, version := some version,
               flags := some flags } } }

/-- A state before a box header, over the media space `bs`. -/
def atHeader (bs : List Byte) : State :=
  { State.reset with
    phase := .boxHeader
    tx := { Tx.empty with pass := .media, mediaSpace := Memory.ofBytes bs, frames := [wholeFrame bs.length] } }

/-- The 608 cells of a text in the reset style. -/
def cells (t : Str) : List Cell608 := t.map fun ch => { glyph := [ch], style := .reset }

/-- A 608 memory with text in row 15. -/
def memOf (t : Str) : Mem608 := { Mem608.reset with rows := Mem608.reset.rows.set 15 (cells t) }

/-- A state that feeds a pair of field 0 at a pts to CC1. -/
def feeding (c : Chan608) (pts : Rat) : State :=
  { State.reset with
    phase := .dec608
    d608 := { Dec608.reset with chan := Dec608.reset.chan.set 0 c }
    tx := { Tx.empty with feed := { Feed.empty with pts := pts } } }

/-- CC1 in a mode, with displayed text. -/
def showing (m : Mode608) (t : Str) : Chan608 := { Chan608.reset with mode := m, cur := m.buf, disp := memOf t }

/-- CC1 in roll-up mode with two rows. -/
def rolling (t : Str) : Chan608 := { showing .rollUp t with disp := { memOf t with scroll := 2 } }

/-- The text of a row of CC1's current memory. -/
def rowText (r : Fin 16) (s : State) : Str := ((s.chan608 0).mem (s.chan608 0).cur).rows[r].flatMap (·.glyph)

/-- What a test looks at in a cue. -/
structure Brief where
  stream : Machine.Stream
  start : Rat
  stop : Rat
  text : Str
  deriving DecidableEq, Repr

/-- The stream, times and text of the cues. -/
def cueList (s : State) : List Brief := s.tx.cues.map fun c => { stream := c.stream, start := c.begin_, stop := c.end_, text := c.rawText }

/-- A window of 2 rows and 32 columns. -/
def win : Window := { newWindow .default 0 with visible := true, rowCount := 2, colCount := 32 }

/-- A window with a cell at (0,0), the pen behind it. -/
def winA : Window := (win.setCell 0 0 (some { glyph := ['A'], ul := false, it := false, fg := 7, bg := 0 })).penAt 0 1

/-- A state that runs a code of service 1 at pts 2, with windows 0 and 1 present and window 0 current. -/
def running (w : Window) : State :=
  { State.reset with
    phase := .cmd
    d708 := { Dec708.reset with
      svc := [(1, { win := (Service.reset.win.set 0 (some w)).set 1 (some { win with visible := false }), current := some 0 })] }
    tx := { Tx.empty with feed := { Feed.empty with pts := 2, svc := 1, pkt := [(0x41, 2)], blockEnd := 1 } } }

/-- A state that runs a code of a service with no window. -/
def bare : State := { running win with d708 := { Dec708.reset with svc := [(1, Service.reset)] } }

/-- What a code leaves of window 0. -/
def winAfter {α : Type} (i : Instr) (w : Window) (f : Window → α) : Option α :=
  ((after (exec i (running w))).bind (·.curWindow 0)).map f


/-! ## Boxes and readers -/

/-- T-BOX-3, T-BOX-4: sizes, and a size below the header. -/
theorem test_header_sizes :
    seen (.boxLargesize 0 24) { atHeader (List.replicate 40 0) with tx := { (atHeader (List.replicate 40 0)).tx with
        frames := [{ wholeFrame 40 with pos := 16 }] } } (fun t => (t.tx.box.base, t.tx.box.stop)) = some (16, 24) ∧
    seen (.boxSizeLiteral 4 0) { atHeader (List.replicate 40 0) with tx := { (atHeader (List.replicate 40 0)).tx with
        frames := [{ wholeFrame 40 with pos := 8 }] } } (fun t => (t.tx.frames.map (·.pos), t.phase)) =
      some ([40], .boxHeader) := by decide

/-- T-BOX-3: the guard. -/
theorem test_large_size_guard :
    seen (.boxLargesize 0 0x0020000000000000) (atHeader (List.replicate 40 0)) (fun t => t.outbox.map (·.events)) =
      some [[.boundsError { space := .media, pos := 8, n := 8, reason := .guard64 }]] := by decide

/-- T-FLD-1: tkhd version 1, and the same bytes as version 0. -/
theorem test_tkhd :
    seen .boxTkhd { inBox .init 1 3 (List.replicate 24 0 ++ [0, 0, 0, 7]) with
        tx := { (inBox .init 1 3 (List.replicate 24 0 ++ [0, 0, 0, 7])).tx with
          acc := { InitAcc.empty with pairs := [(none, none)] }
          frames := [{ wholeFrame 28 with trak := some 0 }] } }
      (·.tx.acc.pairs) = some [(some 7, none)] := by decide

/-- T-FLD-2: mdhd version 0. -/
theorem test_mdhd :
    seen .boxMdhd { inBox .init 0 0 (List.replicate 16 0 ++ [0x00, 0x00, 0xBB, 0x80]) with
        tx := { (inBox .init 0 0 (List.replicate 16 0 ++ [0x00, 0x00, 0xBB, 0x80])).tx with
          acc := { InitAcc.empty with pairs := [(some 1, none)] }
          frames := [{ wholeFrame 20 with trak := some 0 }] } }
      (·.tx.acc.pairs) = some [(some 1, some 48000)] := by decide

theorem test_mvhd :
    seen .boxMvhd (inBox .init 0 0 (List.replicate 16 0 ++ [0, 0, 3, 0xE8])) (·.tx.acc.movieTimescale) = some (some 1000) := by
  decide

/-- T-FLD-4: tfhd. -/
theorem test_tfhd :
    seen .boxTfhd (inBox .media 0 0x18 (List.replicate 8 0 ++ [0, 0, 0, 1, 0, 0, 0x0B, 0xB8, 0, 0, 4, 0])) (·.tx.slots.tfhd) =
      some (some { trackId := 1, baseDataOffset := none, sampleDescriptionIndex := none, defaultSampleDuration := some 3000,
                   defaultSampleSize := some 1024, defaultSampleFlags := none }) := by decide

/-- T-FLD-6: tfdt. -/
theorem test_tfdt :
    seen .boxTfdt (inBox .media 1 0 (List.replicate 8 0 ++ [0, 0, 0, 0, 0, 1, 0x5F, 0x90])) (·.tx.slots.tfdt) =
      some (some 90000) ∧
    seen .boxTfdt (inBox .media 0 0 (List.replicate 8 0 ++ [0, 1, 0x5F, 0x90])) (·.tx.slots.tfdt) = some (some 90000) := by
  decide

/-- T-FLD-7: trun version 1, signed fields. -/
theorem test_trun :
    seen .boxTrun (inBox .media 1 0x801
        (List.replicate 8 0 ++ [0, 0, 0, 1, 0xFF, 0xFF, 0xFF, 0xF8, 0xFF, 0xFF, 0xF4, 0x48])) (·.tx.slots.truns) =
      some [{ sampleCount := 1, dataOffset := some (-8), samples := [{ dur := none, size := none, cto := some (-3000) }] }] := by
  decide

/-- 42 R191: trex. -/
theorem test_trex :
    seen .boxTrex (inBox .init 0 0 (List.replicate 8 0 ++ [0, 0, 0, 1, 0, 0, 0, 9, 0, 0, 3, 0xE9, 0, 0, 1, 0x90, 0, 0, 0, 8]))
      (·.tx.acc.trex) = some [(1, { dur := 1001, size := 400 })] := by decide

/-- T-BOX-10: frma in an encv. -/
theorem test_frma :
    seen .boxFrma { inBox .init 0 0 (List.replicate 8 0 ++ [0x68, 0x76, 0x63, 0x31]) with
        tx := { (inBox .init 0 0 (List.replicate 8 0 ++ [0x68, 0x76, 0x63, 0x31])).tx with
          acc := { InitAcc.empty with encvs := [false] }
          frames := [{ wholeFrame 12 with encv := some 0 }] } }
      (·.tx.acc.codec) = some (some .h265) := by decide

/-- T-BOX-9, R158: the count of a stsd bounds the walk. -/
theorem test_stsd :
    seen .boxStsd (inBox .init 0 0 (List.replicate 8 0 ++ [0, 0, 0, 2])) (fun t => t.tx.frames.map fun f => (f.pos, f.count)) =
      some [(12, some 2), (12, none)] := by decide

/-- T-BOX-10: a sample entry that is too short fails; R157. -/
theorem test_avc1_short :
    seen .boxAvc1 (inBox .init 0 0 (List.replicate 85 0)) (fun t => t.outbox.map (·.events)) =
      some [[.boundsError { space := .init, pos := 8, n := 78, reason := .pastEnd }]] := by decide

theorem test_hev1 :
    seen .boxHev1 (inBox .init 0 0 (List.replicate 86 0)) (fun t => (t.tx.acc.codec, t.tx.frames.map (·.pos))) =
      some (some .h265, [86, 86]) := by decide

/-- T-FLD-13: emsg, both versions. -/
theorem test_emsg_v0 :
    seen .boxEmsg (inBox .fields 0 0 (List.replicate 8 0 ++ [0x75, 0x72, 0x6E, 0x3A, 0x78, 0, 0x76, 0x31, 0, 0, 0, 3, 0xE8, 0, 0, 0, 0,
        0, 0, 1, 0xF4, 0, 0, 0, 7, 1, 2])) (·.fieldOut) =
      some [.emsg { schemeIdUri := ['u', 'r', 'n', ':', 'x'], value := ['v', '1'], timescale := 1000, presentation := 0,
                    eventDuration := 500, id := 7, messageData := [1, 2] }] := by decide

theorem test_emsg_v1 :
    seen .boxEmsgV1 (inBox .fields 1 0 (List.replicate 8 0 ++ [0, 0, 3, 0xE8, 0, 0, 0, 0, 0, 1, 0x5F, 0x90, 0, 0, 1, 0xF4, 0, 0, 0, 7,
        0x75, 0x72, 0x6E, 0x3A, 0x78, 0, 0x76, 0x31, 0])) (·.fieldOut) =
      some [.emsg { schemeIdUri := ['u', 'r', 'n', ':', 'x'], value := ['v', '1'], timescale := 1000, presentation := 90000,
                    eventDuration := 500, id := 7, messageData := [] }] := by decide

/-- 42 R200, worked from the rule. -/
theorem test_sidx :
    seen .boxSidx (inBox .fields 0 0 (List.replicate 8 0 ++ [0, 0, 0, 1, 0, 1, 0x5F, 0x90, 0, 0, 0, 0, 0, 0, 0, 0, 0, 0, 0, 1, 0x80, 0, 0,
        5, 0, 0, 0, 9, 0x90, 0, 0, 3])) (·.fieldOut) =
      some [.sidx { referenceId := 1, timescale := 90000, earliestPresentationTime := 0, firstOffset := 0,
                    references := [{ referenceType := 1, referencedSize := 5, subsegmentDuration := 9, startsWithSap := 1, sapType := 1,
                                     sapDeltaTime := 3 }] }] := by decide +kernel

/-- 42 R201, worked from the rule. -/
theorem test_elst :
    seen .boxElst (inBox .fields 0 0 (List.replicate 8 0 ++ [0, 0, 0, 1, 0, 0, 0, 5, 0xFF, 0xFF, 0xFF, 0xFF, 0, 1, 0, 0]))
      (·.fieldOut) =
      some [.elst [{ segmentDuration := 5, mediaTime := -1, mediaRateInteger := 1, mediaRateFraction := 0 }]] := by decide

/-- 42 R202, worked from the rule: version 1 with a constant IV. -/
theorem test_tenc :
    seen .boxTenc (inBox .fields 1 0 (List.replicate 8 0 ++ [0, 0x19, 1, 0] ++ List.replicate 16 7 ++ [2, 0xAA, 0xBB])) (·.fieldOut) =
      some [.tenc { cryptByteBlock := some 1, skipByteBlock := some 9, isProtected := 1, perSampleIvSize := 0,
                    kid := List.replicate 16 7, constantIv := some [0xAA, 0xBB] }] := by decide

/-- 42 R203, worked from the rule. -/
theorem test_prft :
    seen .boxPrft (inBox .fields 0 0 (List.replicate 8 0 ++ [0, 0, 0, 1, 0, 0, 0, 2, 0, 0, 0, 3, 0, 0, 0, 4])) (·.fieldOut) =
      some [.prft { referenceTrackId := 1, ntpSeconds := 2, ntpFraction := 3, mediaTime := 4 }] := by decide

/-- T-RD-2, T-RD-3, T-RD-4: guard, signs, strings. -/
theorem test_readers :
    ((readU64 true).run (wholeReader .init [0, 0x1F, 0xFF, 0xFF, 0xFF, 0xFF, 0xFF, 0xFF])).toOption.map Prod.fst =
      some 9007199254740991 ∧
    ((readU64 true).run (wholeReader .init [0, 0x20, 0, 0, 0, 0, 0, 0])).toOption.map Prod.fst = none ∧
    ((readU64 false).run (wholeReader .init [0, 0x20, 0, 0, 0, 0, 0, 0])).toOption.map Prod.fst = some 9007199254740992 ∧
    (readI32.run (wholeReader .init [0xFF, 0xFF, 0xFF, 0xF8])).toOption.map Prod.fst = some (-8) ∧
    (readTerminatedString.run (wholeReader .init [0x61, 0x62, 0, 0x63])).toOption.map (fun x => (x.1, x.2.pos)) =
      some (['a', 'b'], 3) ∧
    (readTerminatedString.run (wholeReader .init [0xEF, 0xBF, 0xBD, 0])).toOption.map (fun x => (x.1, x.2.pos)) = some ([], 4) ∧
    (readTerminatedString.run (wholeReader .init [0xFF, 0])).toOption.map (fun x => (x.1, x.2.pos)) = some ([], 2) := by decide

/-! ## The NAL walk and caption payloads -/

/-- T-EPB-1 to T-EPB-4. -/
theorem test_emulation_prevention :
    (epbRemove 0 [0, 0, 3, 5], epbRemove 0 [0, 0, 3, 3], epbRemove 0 [0, 0, 0, 3], epbRemove 0 [0, 0, 3],
      epbRemove 0 [0, 3, 0, 0, 3, 0], epbRemove 0 [3, 0, 0]) =
    ([0, 0, 5], [0, 0, 3], [0, 0, 0], [0, 0], [0, 3, 0, 0, 0], [3, 0, 0]) := by decide

/-- T-NAL-1: the samples of sizes 20 and 30 under NALs of 16, 10 and 16 bytes. -/
theorem test_sample_advance :
    let w0 : NalWalk := { NalWalk.empty with
      stop := 54, rest := [{ size := 20, dur := 3000, cto := 0 }, { size := 30, dur := 3000, cto := 0 }], ts := 90000 }
    let w1 := w0.passNal 16
    let w2 := w1.passNal 10
    let w3 := w2.passNal 16
    (w1.rest.length, w1.used, w1.time, w2.rest.length, w2.used, w3.rest.length, w3.time) = (1, 0, 3000, 1, 14, 0, 6000) := by decide

/-- A state at a NAL of a one-sample walk. -/
def atNal (bs : List Byte) : State :=
  { State.reset with
    init := { InitCtx.reset with bitstream := .h264 }
    phase := .nal
    tx := { Tx.empty with
      pass := .media, mediaSpace := Memory.ofBytes bs
      walk := { pos := 0, stop := bs.length, rest := [{ size := bs.length, dur := 3003, cto := 3003 }], time := 0, used := 0,
                ts := 90000 } } }

/-- T-NAL-5, R245: an SEI NAL's payload is de-escaped, at pts 3003/90000. -/
theorem test_sei_nal :
    seen (.nalH264Sei 5 0) (atNal [0, 0, 0, 5, 6, 0, 0, 3, 5]) (fun t => (t.tx.sei.nalbuf, t.tx.sei.pts, t.phase, t.tx.walk.pos)) =
      some (Memory.ofBytes [0, 0, 5], mkRat 3003 90000, .sei, 9) := by decide +kernel

theorem test_other_nal :
    seen (.nalH264Other 5 0x65) (atNal [0, 0, 0, 5, 0x65, 0, 0, 3, 5]) (fun t => (t.phase, t.tx.walk.pos)) = some (.nal, 9) ∧
    seen (.nalShort 0) (atNal [0, 0, 0, 0, 6]) (fun t => t.tx.walk.pos) = some 4 ∧
    seen (.nalH265Other 2 0x40) (atNal [0, 0, 0, 2, 0x40, 1]) (fun t => t.tx.walk.pos) = some 6 ∧
    seen (.nalH265SeiPre 3 0 0) (atNal [0, 0, 0, 3, 0x4E, 1, 4]) (fun t => t.tx.sei.nalbuf) = some (Memory.ofBytes [4]) ∧
    seen (.nalH265SeiSuf 3 0 0) (atNal [0, 0, 0, 3, 0x50, 1, 4]) (fun t => t.tx.sei.nalbuf) = some (Memory.ofBytes [4]) := by
  decide +kernel

/-- A state in the SEI loop after a message header of 2 bytes. -/
def atSei (bs : List Byte) : State :=
  { State.reset with phase := .sei, tx := { Tx.empty with sei := { SeiRegs.empty with nalbuf := Memory.ofBytes bs, pos := 2 } } }

/-- T-SEI-2, T-SEI-3: the payload, clamped; R246: the skip of another type. -/
theorem test_sei_messages :
    seen (.seiT35 3) (atSei [4, 3, 0xB5, 0, 0x31, 0x80]) (fun t => (t.tx.sei.t35, t.tx.sei.pos, t.phase)) =
      some (Memory.ofBytes [0xB5, 0, 0x31], 5, .t35) ∧
    seen (.seiT35 16) (atSei [4, 16, 0xB5, 0]) (fun t => (t.tx.sei.t35.size, t.tx.sei.pos)) = some (2, 4) ∧
    seen (.seiOther 5 1) (atSei [5, 1, 0xAA]) (fun t => (t.tx.sei.pos, t.phase)) = some (3, .sei) := by decide

/-- T-CC-1, T-CC-3: the reserved byte is skipped, or missing. -/
theorem test_t35 :
    seen (.t35AtscCc 0 0 1)
      { State.reset with phase := .t35, tx := { Tx.empty with sei := { SeiRegs.empty with t35 := Memory.ofBytes (List.replicate 13 0), t35Pos := 9 } } }
      (fun t => (t.tx.sei.t35Pos, t.tx.sei.triples, t.phase)) = some (10, 1, .cc) ∧
    seen (.t35AtscCc 0 0 1)
      { State.reset with phase := .t35, tx := { Tx.empty with sei := { SeiRegs.empty with t35 := Memory.ofBytes (List.replicate 9 0), t35Pos := 9 } } }
      (fun t => t.outbox.map (·.events)) = some [[.boundsError { space := .t35, pos := 9, n := 1, reason := .pastEnd }]] ∧
    seen (.t35Rejected []) { State.reset with phase := .t35 } (·.phase) = some .sei := by decide

/-- T-CC-5, T-CC-6: the queues by scheme. -/
theorem test_triples :
    seen (.cc608F1 31 0xC8 0xE9) State.reset (fun t => t.tx.q608.map fun p => (p.field, p.b1, p.b2, p.order)) =
      some [(1, 0xC8, 0xE9, 0)] ∧
    seen (.cc608F0 31 0x94 0x20) State.reset (fun t => t.tx.q608.map (·.field)) = some [0] ∧
    seen (.ccDtvccStart 31 2 0x21) { State.reset with cfg := { Params.default with scheme := .cea708 } }
      (fun t => t.tx.q708.map fun b => (b.start, b.value)) = some [(true, 2), (false, 0x21)] ∧
    seen (.ccDtvccData 31 0x41 0x42) { State.reset with cfg := { Params.default with scheme := .cea708 } }
      (fun t => t.tx.q708.map fun b => (b.start, b.value)) = some [(false, 0x41), (false, 0x42)] ∧
    seen (.ccDtvccData 31 0x41 0x42) State.reset (·.tx.q708) = some [] ∧
    seen (.ccInvalid 31 2 0x94 0x20) State.reset (·.tx.q608) = some [] := by decide


/-! ## CEA-608 -/

/-- T-608-BAD-1, T-608-PAR: the count, and the reset at the 45th. -/
theorem test_bad_frames :
    seen (.bad608 0x14 0x20) State.reset (·.d608.badFrames) = some 1 ∧
    seen (.bad608 0xFF 0xFF) { feeding (showing .none ['H', 'i']) 1 with
        d608 := { (feeding (showing .none ['H', 'i']) 1).d608 with badFrames := 44 } }
      (fun t => (t.d608, t.tx.events)) = some (Dec608.reset, [.badFrameReset]) := by decide +kernel

/-- T-608-NULL. -/
theorem test_null_pair :
    seen .null608 { feeding { Chan608.reset with lastCP := some 0x142C } 0 with
        d608 := { (feeding { Chan608.reset with lastCP := some 0x142C } 0).d608 with badFrames := 7 } }
      (fun t => (t.d608.badFrames, (t.chan608 0).lastCP)) = some (0, some 0x142C) := by decide +kernel

/-- T-608-DUP: the repeat is suppressed and forgotten. -/
theorem test_duplicate :
    seen (.bs608 0 0) (feeding (showing .paintOn ['a', 'b', 'c', 'd']) 0) (fun t => (rowText 15 t, (t.chan608 0).lastCP)) =
      some (['a', 'b', 'c'], some 0x1421) ∧
    seen (.dup608 0 4 0x21) (feeding { showing .paintOn ['a', 'b', 'c'] with lastCP := some 0x1421 } 0)
      (fun t => (rowText 15 t, (t.chan608 0).lastCP)) = some (['a', 'b', 'c'], none) := by decide +kernel

/-- T-608-CH: the channel bit routes the pair. -/
theorem test_routing :
    seen (.rcl608 1 0) (feeding .reset 0) (fun t => (t.d608.curChan[0], (t.chan608 0).mode, (t.chan608 1).mode, (t.chan608 1).cur)) =
      some (1, .none, .popOn, .nond) := by decide +kernel

/-- T-608-PAC-1: row 15 white, row 10, row 1 in white italics, row 6. -/
theorem test_pac :
    ([(9, 0), (15, 0), (2, 7), (11, 0)].map fun p : BitVec 4 × BitVec 4 =>
      seen (.pac608 0 p.1 p.2 0) (feeding .reset 0) fun t => ((t.chan608 0).disp.row, (t.chan608 0).disp.style)) =
    [some (15, .reset), some (10, .reset), some (1, { Style608.reset with it := true }), some (6, .reset)] := by decide +kernel

/-- T-608-MOVE: scroll 2, rows 14 and 15 go to rows 9 and 10. -/
theorem test_pac_moves_window :
    seen (.pac608 0 15 0 0)
      (feeding { rolling ['A', 'B'] with
        disp := { memOf ['A', 'B'] with scroll := 2, rows := (memOf ['A', 'B']).rows.set 14 (cells ['C', 'D']) } } 0)
      (fun t => (rowText 9 t, rowText 10 t, rowText 14 t, rowText 15 t, (t.chan608 0).disp.row)) =
      some (['C', 'D'], ['A', 'B'], [], [], 10) := by decide +kernel

/-- 44 R290: a space in the old style, then white italics underlined. -/
theorem test_midrow :
    seen (.midrow608 0 7 1) (feeding (showing .paintOn ['H']) 0)
      (fun t => ((t.chan608 0).disp.rows[15].map fun c => (c.glyph, c.style), (t.chan608 0).disp.style)) =
      some ([(['H'], .reset), ([' '], .reset)], { ul := true, it := true, fg := .white, bg := .black }) := by decide +kernel

/-- 44 R291: index 1 is green; form 2 is black. -/
theorem test_background :
    seen (.bg608 0 4) (feeding .reset 0) (fun t => (t.chan608 0).disp.style.bg) = some .green ∧
    seen (.bgBlack608 0) (feeding { Chan608.reset with disp := { Mem608.reset with style := { Style608.reset with bg := .green } } } 0)
      (fun t => (t.chan608 0).disp.style.bg) = some .black := by decide +kernel

/-- 44 R292, R293, R295: the note, the corrected letter, two letters, one letter and a pad. -/
theorem test_characters :
    seen (.special608 0 7) (feeding .reset 0) (rowText 15) = some ['\u266A'] ∧
    seen (.extended608 0 0 1) (feeding (showing .paintOn ['e']) 0) (rowText 15) = some ['É'] ∧
    seen (.extended608 0 1 15) (feeding .reset 0) (rowText 15) = some ['~'] ∧
    seen (.basic608 0x48 0x69) (feeding .reset 0) (rowText 15) = some ['H', 'i'] ∧
    seen (.basic608 0x65 0) (feeding .reset 0) (rowText 15) = some ['e'] ∧
    seen (.basic608 0x27 0x7F) (feeding .reset 0) (rowText 15) = some ['\u2019', '\u2588'] := by decide +kernel

/-- 44 R294, R300-R302, R304: only the pair is remembered. -/
theorem test_accepted_codes :
    ([(Instr.aof608 0 0, 0x1422), (.aon608 0 0, 0x1423), (.der608 0 0, 0x1424), (.fon608 0 0, 0x1428), (.unrecognized608 0 7 0x21, 0x1721)].all
      fun p : Instr × Pair => seen p.1 (feeding (showing .popOn ['A']) 3) (·.d608) ==
        some (feeding { showing .popOn ['A'] with lastCP := some p.2 } 3).d608) = true := by decide +kernel

/-- 44 R298, R305, R310: modes, buffers, the recorded start, the blanked memory. -/
theorem test_quiet_modes :
    seen (.rcl608 0 0) (feeding (rolling ['A']) 3) (fun t => ((t.chan608 0).mode, (t.chan608 0).cur)) = some (.popOn, .nond) ∧
    seen (.rdc608 0 0) (feeding (rolling ['A']) 3)
      (fun t => ((t.chan608 0).mode, (t.chan608 0).disp.scroll, (t.chan608 0).prevEndTime)) = some (.paintOn, 0, 3) ∧
    seen (.enm608 0 0) (feeding { Chan608.reset with nond := memOf ['A'] } 3) (fun t => (t.chan608 0).nond.rows[15]) = some [] := by
  decide +kernel

/-- 44 R306, R307: Text mode is logged once for each entry. -/
theorem test_text_mode :
    seen (.rtd608 0 0) (feeding .reset 3) (fun t => ((t.chan608 0).cur, t.tx.events)) = some (.text, [.textModeUnsupported 0]) ∧
    seen (.rtd608 0 0) (feeding { Chan608.reset with mode := .text, cur := .text } 3) (fun t => t.tx.events) = some [] ∧
    seen (.tr608 0 0) (feeding { Chan608.reset with text := memOf ['A'] } 3)
      (fun t => ((t.chan608 0).text.rows[15], t.tx.events.length)) = some ([], 1) := by decide +kernel

/-- 44 R303: "A" displayed since 1 s, RU2 at 3 s; RU3 and RU4 in roll-up only change the size. -/
theorem test_roll_up_start :
    seen (.ru2608 0 0) (feeding { showing .popOn ['A'] with prevEndTime := 1 } 3)
      (fun t => (cueList t, (t.chan608 0).disp.rows[15], (t.chan608 0).disp.scroll, (t.chan608 0).prevEndTime)) =
      some ([⟨.cc 0, 1, 3, ['A']⟩], [], 2, 1) ∧
    seen (.ru3608 0 0) (feeding (rolling ['A']) 3) (fun t => (cueList t, rowText 15 t, (t.chan608 0).disp.scroll)) =
      some ([], ['A'], 3) ∧
    seen (.ru4608 0 0) (feeding (rolling ['A']) 3) (fun t => (t.chan608 0).disp.scroll) = some 4 := by decide +kernel

/-- 44 R308: "Hi" from 0 to 2; in Text mode nothing is emitted but the memory is blanked. -/
theorem test_edm :
    seen (.edm608 0 0) (feeding (showing .popOn ['H', 'i']) 2) (fun t => (cueList t, (t.chan608 0).disp.rows[15])) =
      some ([⟨.cc 0, 0, 2, ['H', 'i']⟩], []) ∧
    seen (.edm608 0 0) (feeding (showing .text ['H', 'i']) 2) (fun t => (cueList t, (t.chan608 0).disp.rows[15])) = some ([], []) := by
  decide +kernel

/-- 44 R311: the memories are exchanged, with no cue for an empty one. -/
theorem test_eoc :
    seen (.eoc608 0 0) (feeding { Chan608.reset with mode := .popOn, cur := .nond, nond := memOf ['H', 'i'] } 1)
      (fun t => (cueList t, (t.chan608 0).disp.rows[15].length, (t.chan608 0).nond.rows[15], (t.chan608 0).prevEndTime)) =
      some ([], 2, [], 1) := by decide +kernel

/-- 44 R309: "abcdef" from 0 to 1, then one row higher; nothing outside roll-up. -/
theorem test_cr :
    seen (.cr608 0 0) (feeding (rolling ['a', 'b', 'c', 'd', 'e', 'f']) 1)
      (fun t => (cueList t, rowText 14 t, rowText 15 t, (t.chan608 0).prevEndTime)) =
      some ([⟨.cc 0, 0, 1, ['a', 'b', 'c', 'd', 'e', 'f']⟩], ['a', 'b', 'c', 'd', 'e', 'f'], [], 1) ∧
    seen (.cr608 0 0) (feeding (showing .paintOn ['A']) 1) (fun t => (cueList t, rowText 15 t)) = some ([], ['A']) := by decide +kernel

/-! ## CEA-708 -/

/-- 45 R361, R362: a start byte 02 expects 3 bytes; code 0 expects 127; an open packet is dropped. -/
theorem test_packets :
    seen (.dtvccPacketStart 0 2) State.reset (fun t => (t.d708.builder.remaining, t.tx.events)) = some (3, []) ∧
    seen (.dtvccPacketStart 3 0) { State.reset with d708 := { Dec708.reset with builder := { isOpen := true, remaining := 2, bytes := [(0x41, 0)] } } }
      (fun t => (t.d708.builder, t.tx.events)) =
      some ({ isOpen := true, remaining := 127, bytes := [] }, [.dtvccPacketDropped 1 3]) ∧
    seen (.dtvccData 0x41) State.reset (·.d708) = some Dec708.reset ∧
    seen (.dtvccData 0x42) { State.reset with d708 := { Dec708.reset with builder := { isOpen := true, remaining := 1, bytes := [(0x41, 0)] } } }
      (fun t => (t.d708.builder, t.phase, t.tx.feed.pkt)) = some (.reset, .svc, [(0x41, 0), (0x42, 0)]) := by decide +kernel

/-- 45 R365, R366, R368. -/
theorem test_blocks :
    seen (.svcHeader 1 2) { State.reset with phase := .svc } (fun t => (t.phase, t.tx.feed.svc, t.tx.feed.blockEnd, t.service 1)) =
      some (.cmd, 1, 2, some .reset) ∧
    seen (.svcExtended 3 0 41) { State.reset with phase := .svc } (fun t => (t.phase, t.tx.feed.svc)) = some (.cmd, 41) ∧
    seen (.svcExtended 3 0 0) { State.reset with phase := .svc } (fun t => (t.phase, t.d708)) = some (.svc, .reset) ∧
    seen (.svcNullOrEmpty 7 0) { State.reset with phase := .svc } (fun t => (t.phase, t.d708)) = some (.svc, .reset) := by decide +kernel

/-- 45 R397-R400: the glyphs, each at the pen. -/
theorem test_glyphs :
    ([(Instr.g0 0x41, 'A'), (.g0Note, '\u266A'), (.g1 0xE9, 'é'), (.g2 0x25, '\u2026'), (.g2 0x22, '_'), (.g3 0xA1, '_')].all
      fun p => winAfter p.1 win (fun w => ((w.cell 0 0).map (·.glyph), w.pen.col)) == some (some [p.2], 1)) = true ∧
    winAfter (.g3 0xA0) win (fun w => (w.cell 0 0).map (·.glyph)) = some (some ['[', 'C', 'C', ']']) := by decide +kernel

/-- 45 R401: at column 32 of 32 nothing is written. -/
theorem test_write_out_of_bounds : winAfter (.g0 0x41) (win.penAt 0 32) (· == win.penAt 0 32) = some true := by decide +kernel

/-- 45 R374. -/
theorem test_c0_bs :
    winAfter .c0Bs winA (fun w => (w.pen.col, w.cell 0 0)) = some (0, none) ∧
    winAfter .c0Bs (win.penAt 1 0) (fun w => (w.pen.row, w.pen.col)) = some (0, 31) ∧
    winAfter .c0Bs win (· == win) = some true := by decide +kernel

/-- 45 R375: the cue, its start, the next row; then the scroll on the last row. -/
theorem test_c0_cr :
    seen .c0Cr (running winA) (fun t => (cueList t, (t.curWindow 0).map fun w => (w.pen.row, w.pen.col, w.start))) =
      some ([⟨.service 1, 0, 2, ['A']⟩], some (1, 0, 2)) ∧
    winAfter .c0Cr (winA.penAt 1 3) (fun w => (w.pen.row, w.pen.col, w.cell 0 0)) = some (1, 0, none) := by decide +kernel

/-- 45 R376, R377. -/
theorem test_hcr_ff :
    seen .c0Hcr (running winA) (fun t => (cueList t, (t.curWindow 0).map fun w => (w.pen.col, w.cell 0 0))) =
      some ([⟨.service 1, 0, 2, ['A']⟩], some (0, none)) ∧
    seen .c0Ff (running (winA.penAt 1 5)) (fun t => (cueList t, (t.curWindow 0).map fun w => (w.pen.row, w.pen.col, w.cell 0 0))) =
      some ([⟨.service 1, 0, 2, ['A']⟩], some (0, 0, none)) := by decide +kernel

/-- 45 R389-R391, R393. -/
theorem test_pen_commands :
    winAfter (.spa 0 0xC0) win (fun w => (w.pen.it, w.pen.ul)) = some (true, true) ∧
    winAfter (.spc 0x2A 0x30 0) win (fun w => (w.pen.fg, w.pen.bg)) = some (7, 4) ∧
    winAfter (.spl 0x11 0x45) win (fun w => (w.pen.row, w.pen.col)) = some (1, 5) ∧
    winAfter (.swa 0xFF 0xFF 0xFD 0xFF) win (·.justify) = some 1 := by decide +kernel

/-- 45 R380, R394. -/
theorem test_select_and_define :
    seen (.cwx 1) (running win) (·.curService.current) = some (some 1) ∧
    seen (.cwx 2) (running win) (·.curService.current) = some (some 0) ∧
    seen (.dfx 0 0x38 0 0 1 0x1F 1) bare
      (fun t => (t.curService.current, (t.curWindow 0).map fun w => (w.visible, w.rowCount, w.colCount, w.start))) =
      some (some 0, some (true, 2, 32, 2)) ∧
    winAfter (.dfx 0 0x38 0 0 1 0x1F 1) winA (fun w => (w.pen.col, (w.cell 0 0).isSome)) = some (1, true) ∧
    winAfter (.dfx 0 0x38 0 0 1 0x1F 0) winA (fun w => w.pen.col) = some 0 := by decide +kernel

/-- 45 R381-R384: window 0 is visible, window 1 is not. -/
theorem test_bitmap_commands :
    seen (.clw 1) (running winA) (fun t => (cueList t, (t.curWindow 0).map fun w => (w.cell 0 0, w.pen.col))) =
      some ([⟨.service 1, 0, 2, ['A']⟩], some (none, 1)) ∧
    seen (.dsw 3) (running winA) (fun t => ((t.curWindow 0).map (·.start), (t.curWindow 1).map (·.start))) = some (some 0, some 2) ∧
    seen (.hdw 3) (running winA) (fun t => (cueList t, (t.curWindow 0).map (·.visible), (t.curWindow 1).map (·.visible))) =
      some ([⟨.service 1, 0, 2, ['A']⟩], some false, some false) ∧
    seen (.tgw 3) (running winA) (fun t => (cueList t, (t.curWindow 0).map (·.visible), (t.curWindow 1).map (·.visible))) =
      some ([⟨.service 1, 0, 2, ['A']⟩], some false, some true) := by decide +kernel

/-- 45 R385, R388. -/
theorem test_delete :
    seen (.dlw 1) (running winA) (fun t => (cueList t, t.curService.current, (t.curWindow 0).isSome, (t.curWindow 1).isSome)) =
      some ([⟨.service 1, 0, 2, ['A']⟩], none, false, true) ∧
    seen .rst (running winA) (fun t => (cueList t, t.curService)) = some ([⟨.service 1, 0, 2, ['A']⟩], .reset) := by decide +kernel

/-- 00_scope.md R8, D48: with a 42-column memory a write at column 42 is dropped, and the pen goes on. -/
theorem test_window_memory_parameter :
    let cfg : Params := { Params.default with w708Rows := 2, w708Cols := 42 }
    let w : Window := { newWindow cfg 0 with rowCount := 16, colCount := 64 }
    (((w.penAt 1 41).write ['A']).cell 1 41).isSome = true ∧ ((w.penAt 1 42).write ['A']).mem = w.mem ∧
      ((w.penAt 1 42).write ['A']).pen.col = 43 ∧ (w.mem.length, w.mem.map List.length) = (2, [42, 42]) := by decide +kernel

/-- 10_state.md R37: the last byte of a packet completes it. -/
theorem test_completed_packets :
    seen (.dtvccData 0x41)
      { running win with d708 := { (running win).d708 with builder := { isOpen := true, remaining := 1, bytes := [(0x21, 1)] } } }
      (fun t => (t.tx.packets, t.tx.feed.pkt, t.phase)) = some ([[(0x21, 1), (0x41, 2)]], [(0x21, 1), (0x41, 2)], .svc) := by
  decide +kernel

/-- 45 R370, R378, R386, R387, R392, R395, R396: no window changes; EXT1 marks its index. -/
theorem test_codes_without_effect :
    ([Instr.c0Nop 3, .dly 5, .dlc, .c1Reserved 0x93, .c2Skip0 7, .c2Skip1 0 1, .c2Skip2 0 1 2, .c2Skip3 0 1 2 3,
        .c3Skip4 0 1 2 3 4, .c3Skip5 0 1 2 3 4 5, .c3Skip0 9].all fun i => seen i (running winA) id == some (running winA)) = true ∧
    seen .ext1 { running winA with tx := { (running winA).tx with feed := { (running winA).tx.feed with pos := 1 } } }
      (·.tx.feed.ext) = some (some 0) := by decide +kernel

/-! ## Control transitions -/

/-- A SUBMIT whose segment was seen, and a CLEAR, from the vectors of 43 R232 and 70 R501. -/
theorem test_transactions :
    (after (step { State.reset with
        dedup := { period := some ['p'], seen := [['s']] }, inbox := [.submit [] [] ['s'] ['p']] })).map (·.outbox) =
      some [{ cues := [], timing := [], events := [.duplicateSegment ['s']], abnormal := false }] ∧
    (after (step { running winA with phase := .idle, tx := .empty, inbox := [.clear] })).map
        (fun t => (t.d708, t.outbox.length, t.inbox.length)) =
      some (.reset, 1, 0) := by decide +kernel

/-- 60 R472, R473: a failure puts back what the SUBMIT found; the codes of R471. -/
theorem test_failure_puts_back :
    let found : Found := { init := { InitCtx.reset with bitstream := .unknown }, disabled := true }
    let s : State := { atHeader [0, 0, 0] with init := { InitCtx.reset with bitstream := .h264 }
                                               tx := { (atHeader [0, 0, 0]).tx with found := found } }
    (after (step s)).map (fun t => (t.init.bitstream, t.disabled, t.phase)) = some (.unknown, true, .idle) ∧
    (Event.code .badFrameReset, Event.code (.dtvccOverrun 1 0)) = (8, 10) := by decide +kernel

/-- T-FLD-11: the timing record, in milliseconds. -/
theorem test_timing_record :
    timingRecord 90000 90000 [{ size := 0, dur := 3000, cto := 0 }, { size := 0, dur := 3000, cto := 0 }] =
      { decodeTime := 1000, duration := mkRat 200 3 } ∧
    timingRecord 0 90000 [{ size := 0, dur := 3003, cto := 0 }] = { decodeTime := 0, duration := mkRat 1001 30 } := by decide +kernel

/-- R194, T-TX-5: a moof with a tfdt has one timing record, from the first mdat after it and none from the next. -/
theorem test_one_timing_record :
    let slots (timed : Bool) : Slots := { Slots.empty with moofStart := some 0, tfdt := some 90000, timed := timed }
    let t : Tx := { Tx.empty with slots := slots false }.recordTiming 90000 []
    (t.timing, t.slots) = ([{ decodeTime := 1000, duration := 0 }], slots true) ∧
    ({ Tx.empty with slots := slots true }.recordTiming 90000 []).timing = [] := by decide +kernel

/-- T-FLD-10: attributes from the trun, the tfhd, the trex, else 0. -/
theorem test_sample_attributes :
    let h : Tfhd := { trackId := 1, baseDataOffset := none, sampleDescriptionIndex := none, defaultSampleDuration := some 3003,
                      defaultSampleSize := none, defaultSampleFlags := none }
    resolveSample h (some { dur := 1001, size := 400 }) { dur := none, size := some 30, cto := none } =
      { size := 30, dur := 3003, cto := 0 } ∧
    resolveSample h (some { dur := 1001, size := 400 }) absentSample = { size := 400, dur := 3003, cto := 0 } ∧
    resolveSample { h with defaultSampleDuration := none } none absentSample = { size := 0, dur := 0, cto := 0 } := by decide

/-! ## States that meet the hypotheses of the statements

For a statement of Certificates/Slice0/Obligations.lean with hypotheses, a state and operands that meet them, clause by clause. -/

/-- An outcome that leaves a state is a next state. -/
theorem next_of {o : Out} (h : (after o).isSome = true) : ∃ t, o = .next t := by
  cases o with
  | next t => exact ⟨t, rfl⟩
  | fault _ => cases h
  | refused _ => cases h

theorem witness_PairsRoundTrip :
    ((Instr.pac608 1 15 15 1).wf = true ∧ langOf (.pac608 1 15 15 1) = .pair none) ∧
    ((Instr.dup608 0 4 0x2C).wf = true ∧ langOf (.dup608 0 4 0x2C) = .pair (some 0x142C)) ∧
    decode (.pair (some 0x142C)) [0x94, 0x2C] = .ok (.dup608 0 4 0x2C, 2) ∧
    decode (.pair none) [0xFF, 0xFF] = .ok (.bad608 0xFF 0xFF, 2) := by decide

theorem witness_RoundTripCodes :
    ∀ i ∈ [Instr.dfx 7 0xFF 0xFF 0xFF 0xFF 0xFF 0xFF, .svcExtended 31 3 63, .dtvccPacketStart 3 63, .dtvccData 0xFF, .g3 0xFF],
      i.wf = true ∧ langOf i ∈ [Lang.dtvcc true, Lang.dtvcc false, Lang.svc, Lang.code, Lang.codeExt] := by decide

theorem witness_RoundTripBoxesAndStreams :
    (∀ i ∈ [Instr.boxLargesize 0xFFFFFFFF 0xFFFFFFFFFFFFFFFF, .boxEmsgV1, .nalShort 1, .seiOther 512 256, .ccInvalid 31 3 0xFF 0xFF],
      i.wf = true ∧ (∀ last, langOf i ≠ .pair last) ∧
        langOf i ∉ [Lang.dtvcc true, Lang.dtvcc false, Lang.svc, Lang.code, Lang.codeExt] ∧ ∀ bs, i ≠ .t35Rejected bs) ∧
    (Instr.t35Rejected []).wf = true ∧ (Instr.t35Rejected (List.replicate 9 0)).wf = true ∧ (List.replicate 9 (0 : Byte)).length = 9 := by
  refine ⟨?_, by decide⟩
  intro i hi
  simp only [List.mem_cons, List.not_mem_nil, or_false] at hi
  rcases hi with rfl | rfl | rfl | rfl | rfl <;> exact ⟨by decide, fun _ h => (nomatch h), by decide, fun _ h => (nomatch h)⟩

theorem witness_DecodedAreWellFormed : decode .sei [0x04, 0x00] = .ok (.seiT35 0, 2) := by decide

/-- A state before the first pair of the 608 queue. -/
def atPair : State :=
  { feeding .reset 0 with
    tx := { Tx.empty with q608 := [{ pts := 1, field := 1, b1 := 0x94, b2 := 0x2C, order := 0 }] } }

/-- A state before the first byte of the 708 queue. -/
def atByte : State :=
  { State.reset with phase := .dec708, tx := { Tx.empty with q708 := [{ pts := 1, start := true, value := 0x02, order := 0 }] } }

/-- A state before a service block header that needs a second byte. -/
def atBlock : State := { State.reset with phase := .svc, tx := { Tx.empty with feed := { Feed.empty with pkt := [(0xE3, 1)] } } }

/-- A state before a code whose parameters lie outside the packet. -/
def atShortCode : State := { running win with tx := { (running win).tx with feed := { (running win).tx.feed with pkt := [(0x90, 2), (0, 2)] } } }

/-- A state at the triples of a T.35 payload with the given bytes. -/
def atTriple (bs : List Byte) : State :=
  { State.reset with phase := .cc, tx := { Tx.empty with sei := { SeiRegs.empty with t35 := Memory.ofBytes bs, triples := 1 } } }

theorem witness_StepRunsDecodedInstruction :
    State.reset.fetchPoint = none ∧
    (atPair.fetchPoint = some (.pair none, [0x94, 0x2C]) ∧ decode (.pair none) [0x94, 0x2C] = .ok (.edm608 0 0, 2)) ∧
    ((atHeader [0, 0, 0]).fetchPoint = some (.boxHeader, [0, 0, 0]) ∧ decode .boxHeader [0, 0, 0] = .error (.truncated 0 4)) ∧
    ((atHeader [0]).phase = .boxHeader ∧ (atHeader [0]).tx.frames = [wholeFrame 1]) ∧
    (inBox .media 0 0 []).phase = .boxDispatch ∧ (atNal []).phase = .nal ∧ (atSei []).phase = .sei ∧
    ({ State.reset with phase := .t35 } : State).phase = .t35 ∧ (atTriple []).phase = .cc ∧
    (atPair.phase = .dec608 ∧ atPair.tx.q608 = [{ pts := 1, field := 1, b1 := 0x94, b2 := 0x2C, order := 0 }]) ∧
    (atByte.phase = .dec708 ∧ atByte.tx.q708 = [{ pts := 1, start := true, value := 0x02, order := 0 }]) ∧ atBlock.phase = .svc ∧
    ((running win).phase = .cmd ∧
      (running win).tx.feed.pkt[(running win).tx.feed.ext.getD (running win).tx.feed.pos]? = some (0x41, 2)) := by decide +kernel

/-- No instruction is next: a level whose count is used up and one whose range is; a NAL walk with no sample left, with 3 bytes left,
with a NAL one byte too long; the ends of NALBUF, of the triples, of both queues, of a packet and of a block. -/
theorem witness_StepRunsDecodedInstruction_ends :
    let box := atHeader (List.replicate 8 0)
    let nal := atNal [0, 0, 0, 2, 6]
    (∀ s ∈ [{ box with tx := { box.tx with frames := [{ wholeFrame 8 with count := some 0 }] } },
        { box with tx := { box.tx with frames := [{ wholeFrame 8 with pos := 8 }] } },
        { nal with tx := { nal.tx with walk := { nal.tx.walk with rest := [] } } }, atNal [0, 0, 0], nal, atSei [5, 0],
        { atTriple [0, 0, 0] with tx := { (atTriple [0, 0, 0]).tx with sei := { (atTriple [0, 0, 0]).tx.sei with triples := 0 } } },
        { atPair with tx := Tx.empty }, { atByte with tx := Tx.empty }, { atBlock with tx := Tx.empty },
        { running win with tx := { (running win).tx with feed := { (running win).tx.feed with pos := 1 } } }],
      s.fetchPoint = none) ∧
    (atNal [0, 0, 0, 1, 6]).fetchPoint = some (.nal .h264, [0, 0, 0, 1, 6]) ∧
    ({ running win with
        tx := { (running win).tx with feed := { (running win).tx.feed with ext := some 0, pos := 1 } } } : State).fetchPoint =
      some (.codeExt, [0x41]) := by decide +kernel

theorem witness_StagesOwnTheirState :
    ((atHeader [0, 0, 0]).phase = .boxHeader ∧ (atHeader [0, 0, 0]).tx.frames ≠ []) ∧
    ∀ s ∈ [atHeader [0, 0, 0], inBox .media 0 0 [], atNal [], atSei [], atTriple [], atPair, atByte, atBlock, running win],
      ∃ t, step s = .next t := by
  refine ⟨by decide, ?_⟩
  intro s hs
  simp only [List.mem_cons, List.not_mem_nil, or_false] at hs
  rcases hs with rfl | rfl | rfl | rfl | rfl | rfl | rfl | rfl | rfl <;> exact next_of (by decide +kernel)

theorem witness_LegalCea608IsKept :
    ∃ s t, s.Inv608 ∧ s.d608.badFrames = 44 ∧ (s.chan608 0).mode = .rollUp ∧ step s = .next t := by
  refine ⟨{ feeding (rolling ['A']) 0 with
    d608 := { (feeding (rolling ['A']) 0).d608 with badFrames := 44 } }, ?_⟩
  have h := next_of (o := step { feeding (rolling ['A']) 0 with
    d608 := { (feeding (rolling ['A']) 0).d608 with badFrames := 44 } }) (by decide +kernel)
  obtain ⟨t, ht⟩ := h
  refine ⟨t, ⟨by decide +kernel, fun k => ?_⟩, by decide +kernel, by decide +kernel, ht⟩
  have fits : ∀ m, Mem608.Fits Params.default m := fun m n h => (nomatch h)
  match k with
  | 0 => exact ⟨by decide +kernel, by decide +kernel, by decide +kernel, by decide +kernel, fun _ => by decide +kernel, fits _, fits _, fits _⟩
  | 1 => exact ⟨by decide +kernel, by decide +kernel, by decide +kernel, by decide +kernel, fun h => (nomatch h), fits _, fits _, fits _⟩
  | 2 => exact ⟨by decide +kernel, by decide +kernel, by decide +kernel, by decide +kernel, fun h => (nomatch h), fits _, fits _, fits _⟩
  | 3 => exact ⟨by decide +kernel, by decide +kernel, by decide +kernel, by decide +kernel, fun h => (nomatch h), fits _, fits _, fits _⟩

/-- The declared sizes, pens and memories of the windows in use are legal. -/
theorem win_legal : ∀ w ∈ [win, { win with visible := false }, winA, win.penAt 1 32, win.penAt 1 31], w.Legal .default := by
  intro w hw
  simp only [List.mem_cons, List.not_mem_nil, or_false] at hw
  rcases hw with rfl | rfl | rfl | rfl | rfl <;>
    exact ⟨by decide, by decide, by decide, by decide, by decide +kernel, by decide +kernel⟩

theorem witness_LegalCea708IsKept : ∃ s t, s.Inv708 ∧ s.phase = .cmd ∧ step s = .next t := by
  obtain ⟨t, ht⟩ := next_of (o := step (running win)) (by decide +kernel)
  refine ⟨running win, t, ⟨⟨⟨by decide, by decide, by decide⟩, by simp [running], ?_, ?_⟩, fun _ => by decide⟩, rfl, ht⟩
  · intro p hp
    simp only [running, List.mem_singleton] at hp
    subst hp
    decide
  · intro p hp
    simp only [running, List.mem_singleton] at hp
    subst hp
    refine ⟨fun i w h => ?_, fun x h => by cases h; rfl⟩
    match i, h with
    | 0, h => cases h; exact win_legal _ (by simp)
    | 1, h => cases h; exact win_legal _ (by simp)
    | 2, h => cases h
    | 3, h => cases h
    | 4, h => cases h
    | 5, h => cases h
    | 6, h => cases h
    | 7, h => cases h

theorem witness_remaining_invariants :
    ∃ t, step State.reset = .next t ∧ State.reset.InvSpaces ∧ State.reset.InvInit ∧ State.reset.InvDedup ∧ State.reset.InvCursors := by
  refine ⟨State.reset, rfl, ⟨rfl, rfl, rfl, rfl, fun _ h => (nomatch h), fun _ h => (nomatch h)⟩,
    ⟨⟨by decide, by decide⟩, ⟨by decide, by decide⟩, fun h => absurd rfl h⟩,
    ⟨by decide, fun _ => rfl, fun h => absurd rfl h, fun _ => rfl⟩, ⟨fun _ h => (nomatch h), fun h => (nomatch h), ?_, ?_, ?_, ?_⟩⟩ <;> decide

/-- The invariants of the spaces and the cursors are met inside a box, too. -/
theorem witness_invariants_in_a_box :
    ∃ t, step (inBox .media 0 0 (List.replicate 8 0)) = .next t ∧ (inBox .media 0 0 (List.replicate 8 0)).InvSpaces ∧
      (inBox .media 0 0 (List.replicate 8 0)).InvCursors := by
  obtain ⟨t, ht⟩ := next_of (o := step (inBox .media 0 0 (List.replicate 8 0))) (by decide +kernel)
  refine ⟨t, ht, ⟨by decide, by decide, by decide, by decide, fun _ h => (nomatch h), fun _ h => (nomatch h)⟩, ⟨by decide, fun _ => ⟨by decide, by decide, ?_⟩, ?_, ?_, ?_, ?_⟩⟩
  · exact ⟨_, _, rfl, by decide⟩
  all_goals decide

/-- The invariant of the dedup set is met inside a SUBMIT of period "p" with a segment seen, and between two such transactions. -/
theorem witness_DedupAndIdleAreKept :
    let s : State := { atHeader [0, 0, 0] with
      dedup := { period := some ['p'], seen := [['a'], ['b']] }
      tx := { (atHeader [0, 0, 0]).tx with segId := ['c'], perId := ['p'] } }
    ∀ x ∈ [s, { s with phase := .idle, tx := .empty, inbox := [.submit [] [] ['a'] ['p']] }],
      x.InvDedup ∧ ∃ t, step x = .next t := by
  intro s x hx
  simp only [List.mem_cons, List.not_mem_nil, or_false] at hx
  rcases hx with rfl | rfl
  · exact ⟨⟨by decide, fun h => (nomatch h), fun _ => rfl, fun h => (nomatch h)⟩, next_of (by decide +kernel)⟩
  · exact ⟨⟨by decide, fun h => (nomatch h), fun h => absurd rfl h, fun _ => rfl⟩, next_of (by decide +kernel)⟩

/-- A state that holds a SUBMIT of segment "s" in period "p". -/
def submitting (dedup : DedupCtx) (parsed : Option Memory) (bitstream : Bitstream) (disabled : Bool) : State :=
  { State.reset with
    dedup := dedup, disabled := disabled, init := { InitCtx.reset with parsed := parsed, bitstream := bitstream }
    inbox := [.submit [] [] ['s'] ['p']] }

/-- The first SUBMIT of a period; a segment seen; an init not parsed; a disabled track; the media pass. -/
theorem witness_SubmitStartsByCase :
    (∀ s ∈ [submitting .reset none .none false, submitting { period := some ['p'], seen := [['s']] } none .none false,
        submitting { period := some ['p'], seen := [] } none .none false,
        submitting { period := some ['p'], seen := [] } (some (Memory.ofBytes [])) .unknown true,
        submitting { period := some ['p'], seen := [] } (some (Memory.ofBytes [])) .h264 false],
      s.phase = .idle ∧ s.inbox = [.submit [] [] ['s'] ['p']]) ∧
    (submitting .reset none .none false).dedup.period ≠ some ['p'] := by decide

theorem witness_ResetAndClear : ({ running win with phase := .idle, inbox := [.clear] } : State).phase = .idle := rfl

/-- The end of an init pass, with a codec and without one. -/
theorem witness_InitPassCompletes :
    ∀ c : Option Codec, c ∈ [none, some .h264] →
      let s : State := { State.reset with phase := .boxHeader, tx := { Tx.empty with acc := { InitAcc.empty with codec := c } } }
      s.phase = .boxHeader ∧ s.tx.frames = [] ∧ s.tx.pass = .init ∧ s.tx.acc.codec = c := by decide

theorem witness_QueuesAreSorted :
    let s : State := { atPair with phase := .boxHeader, tx := { atPair.tx with pass := .media } }
    s.phase = .boxHeader ∧ s.tx.frames = [] ∧ s.tx.pass = .media := by decide

theorem witness_CompletionRecordsSegment :
    let s : State := { State.reset with phase := .dec708 }
    s.phase = .dec708 ∧ s.tx.q708 = [] := by decide

/-- A state at the version and flags word of a tfhd with `n` bytes of payload. -/
def atFull (n : Nat) : State :=
  { inBox .media 0 0 (List.replicate (8 + n) 0) with
    tx := { (inBox .media 0 0 (List.replicate (8 + n) 0)).tx with
      box := { (inBox .media 0 0 (List.replicate (8 + n) 0)).tx.box with type := 0x74666864, version := none, flags := none } } }

/-- A state at a T.35 payload that ends before its flag byte. -/
def atPayload : State :=
  { State.reset with
    phase := .t35
    tx := { Tx.empty with
      sei := { SeiRegs.empty with t35 := Memory.ofBytes [0xB5, 0x00, 0x31, 0x47, 0x41, 0x39, 0x34, 0x03] } } }

/-- Headers short of their size, their type and their largesize, a FULL box without its word, a payload without its flag byte, and
triples short of each byte. -/
theorem witness_ShortReadsEndTheSegment :
    (∀ n ∈ [1, 3, 4, 7], (atHeader (List.replicate n 0)).phase = .boxHeader ∧
      (atHeader (List.replicate n 0)).tx.frames = [wholeFrame n] ∧
      (atHeader (List.replicate n 0)).fetchPoint = some (.boxHeader, List.replicate n 0)) ∧
    (∀ n ∈ [4, 11], let bs : List Byte := [0, 0, 0, 1] ++ List.replicate n 0
      (atHeader bs).fetchPoint = some (.boxHeader, bs) ∧ bs.take 4 = [0, 0, 0, 1] ∧ 8 ≤ bs.length ∧ bs.length < 16) ∧
    (∀ n ∈ [0, 3], (atFull n).phase = .boxDispatch ∧ (atFull n).fetchPoint = some (.boxVf, List.replicate n 0)) ∧
    (atPayload.phase = .t35 ∧ atPayload.fetchPoint = some (.t35, [0xB5, 0x00, 0x31, 0x47, 0x41, 0x39, 0x34, 0x03])) ∧
    ∀ bs ∈ [[], [0xFC], [0xFC, 0x94]], (atTriple bs).phase = .cc ∧ (atTriple bs).fetchPoint = some (.triple, bs) ∧ bs.length < 3 := by
  decide

/-- A tfhd of track 1. -/
def tfhd1 : Tfhd :=
  { trackId := 1, baseDataOffset := none, sampleDescriptionIndex := none, defaultSampleDuration := none,
    defaultSampleSize := none, defaultSampleFlags := none }

/-- A state at an mdat of a fragment whose moof starts at 0. -/
def atMdat (h : Option Tfhd) (ts : List (Word × Word)) (truns : List Trun) : State :=
  { inBox .media 0 0 (List.replicate 12 0) with
    init := { InitCtx.reset with timescale := ts }
    tx := { (inBox .media 0 0 (List.replicate 12 0)).tx with slots := { Slots.empty with moofStart := some 0, tfhd := h, truns := truns } } }

theorem witness_StructuralErrorPropagates :
    ((atMdat none [] []).tx.slots.moofStart = some 0 ∧ (atMdat none [] []).tx.slots.tfhd = none) ∧
    ((atMdat (some tfhd1) [] []).tx.slots.tfhd = some tfhd1 ∧ mapGet tfhd1.trackId (atMdat (some tfhd1) [] []).init.timescale = none) ∧
    mapGet tfhd1.trackId (atMdat (some tfhd1) [(1, 0)] []).init.timescale = some 0 := by decide

/-- One trun with one sample of 4 bytes at a data offset. -/
def trunAt (off : Int) : Trun := { sampleCount := 1, dataOffset := some off, samples := [{ dur := none, size := some 4, cto := none }] }

/-- Data that starts with the payload, at its end, before it and behind it; no sample; no moof. -/
theorem witness_MdatStartsWalk :
    (∀ off ∈ [(8 : Int), 12, 7, 13],
      let s := atMdat (some tfhd1) [(1, 90000)] [trunAt off]
      s.tx.frames = [{ pos := 8, stop := 12, count := none, trak := none, encv := none }] ∧ s.tx.box.base ≤ s.tx.box.stop ∧
      s.tx.slots.moofStart = some 0 ∧ s.tx.slots.tfhd = some tfhd1 ∧ mapGet tfhd1.trackId s.init.timescale = some 90000 ∧
      fragmentSamples tfhd1 (mapGet tfhd1.trackId s.init.trex) s.tx.slots.truns ≠ []) ∧
    fragmentSamples tfhd1 none (atMdat (some tfhd1) [(1, 90000)] []).tx.slots.truns = [] ∧
    (inBox .media 0 0 []).tx.slots.moofStart = none := by decide

/-- A header of 8 bytes whose size is exactly 8, is the rest, or is a largesize below the guard's bound or, without the guard, below
2^64; in a counted level, and not. -/
theorem witness_HeaderOpensBox :
    let s := { atHeader (List.replicate 8 0) with tx := { (atHeader (List.replicate 8 0)).tx with frames := [{ wholeFrame 8 with pos := 8 }] } }
    s.tx.frames = [{ wholeFrame 8 with pos := 8 }] ∧ 8 - s.tx.box.start ≤ 8 ∧ (8 : Nat) < 2 ^ 32 ∧ 8 = 8 - s.tx.box.start ∧
      8 - s.tx.box.start ≤ 2 ^ 53 - 1 ∧ 2 ^ 53 - 1 < 2 ^ 53 ∧ 2 ^ 53 - 1 < 2 ^ 64 ∧ 2 ^ 64 - 1 < 2 ^ 64 ∧
      ({ Params.default with safe64Guard := false } : Params).safe64Guard ≠ true ∧
      ({ wholeFrame 8 with count := some 1 } : Frame).count.isSome := by decide

theorem witness_HeaderEndsLevelOrFails :
    let s := { atHeader (List.replicate 8 0) with tx := { (atHeader (List.replicate 8 0)).tx with frames := [{ wholeFrame 8 with pos := 8 }] } }
    s.tx.frames = [{ wholeFrame 8 with pos := 8 }] ∧ (7 : Word).toNat < 8 - s.tx.box.start ∧
      (7 : BitVec 64).toNat < 8 - s.tx.box.start ∧ (7 : BitVec 64).toNat < 2 ^ 53 ∧
      ({ wholeFrame 8 with count := some 2 } : Frame).count = some (0 + 2) ∧ s.cfg.safe64Guard = true ∧
      0x1FFFFF < ((0x0020000000000000 : BitVec 64).extractLsb' 32 32).toNat := by decide

theorem witness_BoxesAreSkippedOrWalked :
    (inBox .media 0 0 []).tx.frames = [{ pos := 8, stop := 0, count := none, trak := none, encv := none }] := rfl

/-- Payloads that just fit and that are one byte short; an encv with a frma to come, one that has had its frma, and none. -/
theorem witness_SampleEntriesSetCodec :
    (∀ n ∈ [12, 11, 86, 85], (inBox .init 0 0 (List.replicate n 0)).tx.frames =
        [{ pos := 8, stop := n, count := none, trak := none, encv := none }] ∧
      (inBox .init 0 0 (List.replicate n 0)).tx.box.pos = 8 ∧ (inBox .init 0 0 (List.replicate n 0)).tx.box.stop = n) ∧
    ({ InitAcc.empty with encvs := [false] }).encvs[0]? = some false ∧ ({ InitAcc.empty with encvs := [true] }).encvs[0]? ≠ some false := by
  decide

/-- Times and field that just fit, in both versions, inside a trak and outside; times and field that are one byte short. -/
theorem witness_HeaderBoxesReadOneField :
    (∀ p ∈ [((1 : Byte), 16, 28), (0, 8, 20), (1, 16, 27), (0, 8, 19), (1, 16, 23), (0, 8, 15)],
      let s := inBox .init p.1 0 (List.replicate p.2.2 0)
      s.tx.frames = [{ pos := 8, stop := p.2.2, count := none, trak := none, encv := none }] ∧
      p.2.1 = (if s.tx.box.version = some 1 then 16 else 8) ∧ s.tx.box.pos = 8 ∧ s.tx.box.stop = p.2.2) ∧
    ({ InitAcc.empty with pairs := [(none, some 9)] }).pairs[0]? = some (none, some 9) := by decide

theorem witness_FieldBoxesStoreTheirStruct :
    (∃ id d q, readTrex (inBox .init 0 0 (List.replicate 28 0)).boxReader = .ok ((id, d), q)) ∧
    (∃ h q, readTfhd true (inBox .media 0 0 (List.replicate 12 0)).tx.box (inBox .media 0 0 (List.replicate 12 0)).boxReader = .ok (h, q)) ∧
    (∃ d q, readTfdt true (inBox .media 1 0 (List.replicate 16 0)).tx.box (inBox .media 1 0 (List.replicate 16 0)).boxReader = .ok (d, q)) ∧
    (∃ x q, readTrun (inBox .media 0 0 (List.replicate 12 0)).tx.box (inBox .media 0 0 (List.replicate 12 0)).boxReader = .ok (x, q)) ∧
    (∃ e, readTrex (inBox .init 0 0 (List.replicate 27 0)).boxReader = .error e) ∧
    (∃ e, readTfhd true (inBox .media 0 0 (List.replicate 11 0)).tx.box (inBox .media 0 0 (List.replicate 11 0)).boxReader = .error e) ∧
    (∃ e, readTfdt true (inBox .media 1 0 (List.replicate 15 0)).tx.box (inBox .media 1 0 (List.replicate 15 0)).boxReader = .error e) ∧
    (∃ e, readTrun (inBox .media 0 0 (List.replicate 11 0)).tx.box (inBox .media 0 0 (List.replicate 11 0)).boxReader = .error e) :=
  ⟨⟨_, _, _, rfl⟩, ⟨_, _, rfl⟩, ⟨_, _, rfl⟩, ⟨_, _, rfl⟩, ⟨_, rfl⟩, ⟨_, rfl⟩, ⟨_, rfl⟩, ⟨_, rfl⟩⟩

/-- A box of the fields pass with a payload of zeros: at 96 bytes every decoder succeeds, at none every one fails. -/
def zeros (v : Byte) (n : Nat) : State := inBox .fields v 0 (List.replicate (8 + n) 0)

theorem witness_DecoderOnlyBoxesReturnTheirStruct :
    (∃ e q, readEmsgV0 (zeros 0 18).boxReader = .ok (e, q)) ∧ (∃ e q, readEmsgV1 true (zeros 1 22).boxReader = .ok (e, q)) ∧
    (∃ x q, readSidx true (zeros 0 20).tx.box (zeros 0 20).boxReader = .ok (x, q)) ∧
    (∃ x q, readElst true (zeros 0 4).tx.box (zeros 0 4).boxReader = .ok (x, q)) ∧
    (∃ x q, readTenc (zeros 0 20).tx.box (zeros 0 20).boxReader = .ok (x, q)) ∧
    (∃ x q, readPrft true (zeros 0 16).tx.box (zeros 0 16).boxReader = .ok (x, q)) ∧
    (∃ e, readEmsgV0 (zeros 0 17).boxReader = .error e) ∧ (∃ e, readEmsgV1 true (zeros 1 19).boxReader = .error e) ∧
    (∃ e, readSidx true (zeros 0 19).tx.box (zeros 0 19).boxReader = .error e) ∧
    (∃ e, readElst true (zeros 0 3).tx.box (zeros 0 3).boxReader = .error e) ∧
    (∃ e, readTenc (zeros 0 19).tx.box (zeros 0 19).boxReader = .error e) ∧
    (∃ e, readPrft true (zeros 0 15).tx.box (zeros 0 15).boxReader = .error e) :=
  ⟨⟨_, _, rfl⟩, ⟨_, _, rfl⟩, ⟨_, _, rfl⟩, ⟨_, _, rfl⟩, ⟨_, _, rfl⟩, ⟨_, _, rfl⟩, ⟨_, rfl⟩, ⟨_, rfl⟩, ⟨_, rfl⟩, ⟨_, rfl⟩, ⟨_, rfl⟩, ⟨_, rfl⟩⟩

/-- A read up to the end of the range, and one past it; eight bytes whose high word is the guard's bound, and one above it. -/
theorem witness_ReadsAreBoundedAndOrdered :
    (2 ≤ [(1 : Byte), 2].length ∧ 0 + 2 ≤ 2 ∧ 2 < 1 + 2) ∧ 2 < 0 + 8 ∧ 0 + 8 ≤ (List.replicate 8 (0 : Byte)).length ∧
    bigValue [0, 0x1F, 0xFF, 0xFF, 0, 0, 0, 0] / 2 ^ 32 ≤ 0x1FFFFF ∧ 0x1FFFFF < bigValue [0, 0x20, 0, 0, 0, 0, 0, 0] / 2 ^ 32 := by
  decide

theorem witness_TrunRecoversItsArrays :
    let b : BoxCtx := { BoxCtx.empty with version := some 1, flags := some 0xF05 }
    [((1 : Word), (2 : Word), (3 : Word), (4 : Word))].length < 2 ^ 32 ∧ b.version = some 1 ∧ b.flags = some 0xF05 := by decide

theorem witness_FieldsAreReadAtTheirPlaces :
    (∀ v ∈ [(0 : Byte), 1, 2], let b : BoxCtx := { BoxCtx.empty with version := some v, flags := some 0x3B }
      b.flags = some 0x3B ∧ b.version = some v ∧ (v = 1 ∨ b.version ≠ some 1)) ∧ (0x3B : BitVec 24) &&& 0x01 ≠ 0 ∧
    (0x001FFFFFFFFFFFFF : BitVec 64).toNat < 2 ^ 53 ∧ 2 ^ 53 ≤ (0x0020000000000000 : BitVec 64).toNat ∧
    (∀ c ∈ [(1 : Byte), 0x7F], 1 ≤ c.toNat ∧ c.toNat ≤ 0x7F) ∧ (List.replicate 16 (0 : Byte)).length = 16 ∧
    (List.replicate 255 (0 : Byte)).length < 256 := by decide +kernel

theorem witness_SamplesAdvanceBySize :
    (crossSamples [{ size := 20, dur := 1, cto := 0 }, { size := 30, dur := 1, cto := 0 }] 20 0).1 =
      [{ size := 30, dur := 1, cto := 0 }] := by decide

theorem witness_EmulationPreventionIsRemoved :
    ¬ [0x00, 0x00, 0x03] <:+: ([0x00, 0x00, 0x02] : List Byte) ∧ ¬ [0x00, 0x00, 0x03] <:+: ([0x03] ++ [0x00, 0x00] : List Byte) := by decide

/-- A payload with the reserved byte, and one that ends before it; payloads of another country code and of seven bytes. -/
theorem witness_MessagesAndPayloads :
    (¬ ([0xB5, 0x00, 0x31, 0x47, 0x41, 0x39, 0x34, 0x03] : List Byte) <+: [0xB4, 0x00, 0x31, 0x47, 0x41, 0x39, 0x34, 0x03, 0x41] ∧
      ¬ ([0xB5, 0x00, 0x31, 0x47, 0x41, 0x39, 0x34, 0x03] : List Byte) <+: [0xB5, 0x00, 0x31, 0x47, 0x41, 0x39, 0x34]) ∧
    (atTriple [0]).tx.sei.t35Pos < (atTriple [0]).tx.sei.t35.size ∧ (atTriple []).tx.sei.t35.size ≤ (atTriple []).tx.sei.t35Pos := by
  decide

theorem witness_TriplesAreQueuedByScheme :
    State.reset.cfg.scheme = .cea608 ∧
    ({ State.reset with cfg := { Params.default with scheme := .cea708 } } : State).cfg.scheme = .cea708 := by decide

/-- Count 43, which one more bad frame makes 44, and 44, which resets. -/
theorem witness_PairsWithoutAnEffect :
    ∀ n ∈ [43, 44], let s : State := { State.reset with d608 := { Dec608.reset with badFrames := n } }
      (n = 43 → s.d608.badFrames < 44) ∧ (n = 44 → s.d608.badFrames = 44) := by decide

/-- Roll-up, text, and a mode that is neither. -/
theorem witness_RollUpStarts_and_CarriageReturnRollsUp :
    ((feeding (rolling ['A']) 1).remembered 0 (miscPair 0 0 5)).mode = .rollUp ∧
    ((feeding (showing .text ['A']) 1).remembered 0 (miscPair 0 0 5)).mode = .text ∧
    ((feeding (showing .popOn ['A']) 1).remembered 0 (miscPair 0 0 13)).mode = .popOn := by decide +kernel

theorem witness_CodesWithoutAnEffect : bare.curService.current = none := by decide +kernel

/-- Window 0 is current in a running state, at each place of the pen that a clause names: in bounds at the last column, out of bounds
behind it, at the origin, at the start of the second row. -/
theorem witness_current_window :
    ∀ w : Window, w ∈ [win, winA, win.penAt 1 31, win.penAt 1 32, win.penAt 1 0, win.penAt 2 0] → (running w).IsCurrent 0 w := by
  intro w _
  exact ⟨rfl, rfl⟩

theorem witness_pen_places :
    ((win.penAt 1 31).pen.row < 2 ∧ (win.penAt 1 31).pen.col < 32) ∧ 32 ≤ (win.penAt 1 32).pen.col ∧ 2 ≤ (win.penAt 2 0).pen.row ∧
    (win.pen.row = 0 ∧ win.pen.col = 0) ∧ (win.penAt 1 0).pen.row ≠ 0 ∧ winA.pen.col ≠ 0 ∧ win.pen.row + 1 < win.rowCount ∧
    (win.penAt 1 0).rowCount ≤ (win.penAt 1 0).pen.row + 1 := by decide

theorem witness_WindowsAreSelectedAndDefined :
    (running win).curWindow 0 = some win ∧ (running win).curWindow 2 = none ∧ (running win).curWindow 7 = none := by decide +kernel

theorem witness_WindowsAreDeleted : (running win).IsCurrent 0 win ∧ bare.curService.current = none := ⟨⟨rfl, rfl⟩, rfl⟩

/-- A position that the memory holds, the last one, and the first it does not. -/
theorem witness_CharactersAreWrittenAtThePen :
    win.Legal .default ∧ (win.Holds 15 63 ∧ ¬ win.Holds 16 0 ∧ ¬ win.Holds 0 64) := ⟨win_legal _ (by simp), by decide +kernel⟩

/-- No packet open, one with two bytes to come, one with one. -/
theorem witness_PacketsAreAssembled :
    State.reset.d708.builder.isOpen = false ∧
    ∀ n ∈ [2, 1], let b : Builder := { isOpen := true, remaining := n, bytes := [] }
      b.isOpen = true ∧ (2 ≤ b.remaining ∨ b.remaining = 1) := by decide

theorem witness_BlocksAreEnteredOrSkipped :
    ((Instr.svcHeader 1 1).wf = true ∧ (Instr.svcHeader 6 31).wf = true) ∧ (63 : BitVec 6) ≠ 0 ∧
    (atBlock.fetchPoint = some (.svc, [0xE3]) ∧ decode .svc [0xE3] = .error (.truncated 1 1)) ∧
    (atShortCode.fetchPoint = some (.code, [0x90, 0]) ∧ decode .code [0x90, 0] = .error (.truncated 0 5)) := by decide +kernel

/-- A memory and a window with text over a positive span give a cue; white space alone, or no time, gives none. -/
theorem witness_CuesNeedTextAndTime :
    (cue608 .default 0 (memOf ['A']) 0 1).isSome = true ∧ (cue608 .default 0 (memOf [' ']) 0 1).isSome = false ∧
    (cue608 .default 0 (memOf ['A']) 1 1).isSome = false ∧ (cue708 .default 1 winA 2).isSome = true ∧ winA.anchorId.toNat ≤ 8 ∧
    ¬ ({ winA with anchorId := 9 } : Window).anchorId.toNat ≤ 8 ∧
    [AnchorPoint.ul, .uc, .ur, .ml, .mc, .mr, .ll, .lc, .lr][0]? = some Params.default.anchorFallback ∧
    0x20 ∈ Params.default.wsSet := by decide +kernel

/-- A blank before and after a span of two cells with an absent one between them; a row of blanks alone. -/
theorem witness_RunsSpellTheirRow :
    let a : GCell := { glyph := ['A'], style := { ul := false, it := false, fg := .c708 7, bg := .c708 0 } }
    (∀ x ∈ [none] ++ [none], blankCell .default x = true) ∧
      (∀ x ∈ [none, some { a with glyph := [' '] }], blankCell .default x = true) ∧ [some a, none, some a].head? = some (some a) ∧
      [some a, none, some a].getLast? = some (some a) ∧ blankCell .default (some a) = false := by decide

end Sys2Proof.Tests
end

section
/-! SUPPORT. The family of 00_scope.md: every step keeps the 708 decoder legal (O10), 708 characters (O48), and selecting and
defining windows (O54). A step runs an instruction of its own stage (`decode_stage`, `fetchPoint_stage`); those of the box walk, the
elementary stream and the 608 queue leave the 708 decoder alone (`Keeps708`), and the others keep it legal. -/

namespace Sys2Proof

open Machine

/-! ## The stage of an instruction -/

/-- The stage whose cursor reads a language (log entry 1). -/
def Lang.stage : Lang → Phase
  | .boxHeader => .boxHeader
  | .boxVf | .boxType .. => .boxDispatch
  | .nal _ => .nal
  | .sei => .sei
  | .t35 => .t35
  | .triple => .cc
  | .pair _ => .dec608
  | .dtvcc _ => .dec708
  | .svc => .svc
  | .code | .codeExt => .cmd

/-- The stage that an instruction's language belongs to. -/
def Instr.stage (i : Instr) : Phase := (langOf i).stage

theorem Lang.stage_ne_idle (l : Lang) : l.stage ≠ .idle := by
  cases l <;> nofun

/-- Every instruction of a registration table is one of the box dispatch. -/
theorem stage_of_mem_table : ∀ (p : Pass), ∀ e ∈ p.table, e.2.2.stage = .boxDispatch := by
  intro p
  cases p <;> decide

theorem boxInstr_stage (p : Pass) (v1 : Bool) (t : Fourcc) : (boxInstr p v1 t).stage = .boxDispatch := by
  unfold boxInstr
  split
  · rfl
  · split <;> rfl
  · next k i _ h =>
    obtain ⟨l₁, l₂, hl, -⟩ := List.lookup_eq_some_iff.mp h
    exact stage_of_mem_table p (t, k, i) (by simp [hl])

theorem nalInstr_stage (c : Codec) (len : Word) (h : Byte) : (nalInstr c len h).stage = .nal := by
  unfold nalInstr
  cases c
  · dsimp only
    split <;> rfl
  · dsimp only
    split
    · rfl
    · split <;> rfl

theorem tripleInstr_stage (h d1 d2 : Byte) : (tripleInstr h d1 d2).stage = .cc := by
  simp only [tripleInstr]
  split_ifs <;> rfl

theorem miscInstr_stage (code : BitVec 4) (chan ign : BitVec 1) : (miscInstr code chan ign).stage = .dec608 := by
  unfold miscInstr
  split <;> rfl

theorem controlInstr_stage (v : Pair) : (controlInstr v).stage = .dec608 := by
  simp only [controlInstr]
  split_ifs
  iterate 6 (next => rfl)
  · exact miscInstr_stage ..
  · rfl

theorem pairInstr_stage (last : Option Pair) (c1 c2 : Byte) : (pairInstr last c1 c2).stage = .dec608 := by
  unfold pairInstr cleanInstr
  split_ifs
  · rfl
  · rfl
  · rfl
  · exact controlInstr_stage _
  · rfl

theorem c0Instr_stage (c : Byte) : (c0Instr c).stage = .cmd := by
  unfold c0Instr
  split <;> rfl

theorem decodeC1_stage {c : Byte} {ps : List Byte} {i : Instr} {n : Nat} (h : decodeC1 c ps = .ok (i, n)) :
    i.stage = .cmd := by
  unfold decodeC1 at h
  split at h
  case h_17 =>
    split_ifs at h
    · cases h; rfl
    · split at h <;> cases h; rfl
  all_goals cases h; rfl

theorem decodeBoxHeader_stage {bs : List Byte} {i : Instr} {n : Nat} (h : decodeBoxHeader bs = .ok (i, n)) :
    i.stage = .boxHeader := by
  simp only [decodeBoxHeader] at h
  split at h
  · split_ifs at h
    · cases h; rfl
    · split at h <;> cases h; rfl
    · cases h; rfl
  all_goals cases h

theorem decodeVf_stage {bs : List Byte} {i : Instr} {n : Nat} (h : decodeVf bs = .ok (i, n)) :
    i.stage = .boxDispatch := by
  simp only [decodeVf] at h
  split at h <;> cases h; rfl

theorem decodeBoxType_stage {p : Pass} {v1 : Bool} {bs : List Byte} {i : Instr} {n : Nat} (h : decodeBoxType p v1 bs = .ok (i, n)) :
    i.stage = .boxDispatch := by
  simp only [decodeBoxType] at h
  split at h <;> cases h; exact boxInstr_stage ..

theorem decodeNal_stage {c : Codec} {bs : List Byte} {i : Instr} {n : Nat} (h : decodeNal c bs = .ok (i, n)) :
    i.stage = .nal := by
  simp only [decodeNal] at h
  split at h
  · split_ifs at h
    · cases h; rfl
    · split at h <;> cases h; exact nalInstr_stage ..
  · cases h

theorem decodeSei_stage {bs : List Byte} {i : Instr} {n : Nat} (h : decodeSei bs = .ok (i, n)) :
    i.stage = .sei := by
  simp only [decodeSei] at h
  split at h
  · cases h
  · split at h
    · cases h
    · cases h
      split <;> rfl

theorem decodeT35_stage {bs : List Byte} {i : Instr} {n : Nat} (h : decodeT35 bs = .ok (i, n)) :
    i.stage = .t35 := by
  simp only [decodeT35] at h
  split at h
  · split_ifs at h
    · split at h
      · cases h
      · split_ifs at h <;> cases h <;> rfl
    · cases h; rfl
  · cases h; rfl

theorem decodeTriple_stage {bs : List Byte} {i : Instr} {n : Nat} (h : decodeTriple bs = .ok (i, n)) :
    i.stage = .cc := by
  simp only [decodeTriple] at h
  split at h <;> cases h; exact tripleInstr_stage ..

theorem decodePair_stage {last : Option Pair} {bs : List Byte} {i : Instr} {n : Nat} (h : decodePair last bs = .ok (i, n)) :
    i.stage = .dec608 := by
  simp only [decodePair] at h
  split at h <;> cases h; exact pairInstr_stage ..

theorem decodeDtvcc_stage {start : Bool} {bs : List Byte} {i : Instr} {n : Nat} (h : decodeDtvcc start bs = .ok (i, n)) :
    i.stage = .dec708 := by
  simp only [decodeDtvcc] at h
  split at h <;> cases h; split <;> rfl

theorem decodeSvc_stage {bs : List Byte} {i : Instr} {n : Nat} (h : decodeSvc bs = .ok (i, n)) :
    i.stage = .svc := by
  simp only [decodeSvc] at h
  split at h
  · split_ifs at h
    · split at h <;> cases h; rfl
    all_goals cases h; rfl
  · cases h

theorem decodeCode_stage {bs : List Byte} {i : Instr} {n : Nat} (h : decodeCode bs = .ok (i, n)) :
    i.stage = .cmd := by
  simp only [decodeCode] at h
  split at h
  · split_ifs at h
    · cases h; exact c0Instr_stage _
    · cases h; rfl
    · cases h; rfl
    · exact decodeC1_stage h
    · cases h; rfl
  · cases h

theorem decodeExt_stage {bs : List Byte} {i : Instr} {n : Nat} (h : decodeExt bs = .ok (i, n)) :
    i.stage = .cmd := by
  simp only [decodeExt] at h
  split at h
  · split_ifs at h
    case pos => cases h; rfl
    iterate 3 (split at h <;> cases h; rfl)
    · cases h; rfl
    iterate 2 (split at h <;> cases h; rfl)
    all_goals cases h; rfl
  · cases h

/-- What the decoder answers is an instruction of the language's stage. -/
theorem decode_stage {l : Lang} {bs : List Byte} {i : Instr} {n : Nat} (h : decode l bs = .ok (i, n)) :
    i.stage = l.stage := by
  cases l with
  | boxHeader => exact decodeBoxHeader_stage h
  | boxVf => exact decodeVf_stage h
  | boxType p v1 => exact decodeBoxType_stage h
  | nal c => exact decodeNal_stage h
  | sei => exact decodeSei_stage h
  | t35 => exact decodeT35_stage h
  | triple => exact decodeTriple_stage h
  | pair last => exact decodePair_stage h
  | dtvcc start => exact decodeDtvcc_stage h
  | svc => exact decodeSvc_stage h
  | code => exact decodeCode_stage h
  | codeExt => exact decodeExt_stage h

/-- The short form of a service block header names a service other than 0 (45 R365, R366). -/
theorem decode_svcHeader {l : Lang} {bs : List Byte} {a : BitVec 3} {b : BitVec 5} {n : Nat}
    (h : decode l bs = .ok (.svcHeader a b, n)) : a ≠ 0 := by
  have hl : l.stage = .svc := (decode_stage h).symm
  cases l with
  | svc =>
    simp only [decode, decodeSvc] at h
    split at h
    · split_ifs at h with h7 h0
      · split at h <;> cases h
      · cases h
      · cases h
        exact fun e => h0 (.inl e)
    · cases h
  | _ => cases hl

end Sys2Proof

namespace Sys2Proof.Machine

/-- The bytes at the cursor are read in a language of the active stage. -/
theorem fetchPoint_stage {s : State} {l : Lang} {bs : List Byte} (h : s.fetchPoint = some (l, bs)) :
    l.stage = s.phase := by
  unfold State.fetchPoint at h
  cases hp : s.phase <;> simp only [hp] at h
  case idle => cases h
  case boxHeader =>
    unfold State.fetchHeader at h
    split at h
    · cases h
    · split_ifs at h; cases h; rfl
  case boxDispatch =>
    unfold State.fetchBox at h
    split_ifs at h <;> cases h <;> rfl
  case nal =>
    simp only [State.fetchNal] at h
    split at h
    · cases h
    · split_ifs at h; cases h; rfl
  case sei =>
    simp only [State.fetchSei] at h
    split_ifs at h; cases h; rfl
  case t35 => cases h; rfl
  case cc =>
    unfold State.fetchTriple at h
    split_ifs at h; cases h; rfl
  case dec608 =>
    unfold State.fetch608 at h
    split at h <;> cases h; rfl
  case dec708 =>
    unfold State.fetch708 at h
    split at h <;> cases h; rfl
  case svc =>
    simp only [State.fetchSvc] at h
    split_ifs at h; cases h; rfl
  case cmd =>
    simp only [State.fetchCode] at h
    split at h
    · cases h; rfl
    · split_ifs at h; cases h; rfl

/-! ## Steps that leave the 708 decoder alone -/

/-- `t` has the configuration and the 708 decoder of `s`, and it runs a service block only if `s` does, for the same service. -/
structure Keeps708 (s t : State) : Prop where
  cfg : t.cfg = s.cfg
  d708 : t.d708 = s.d708
  block : t.phase = .cmd → s.phase = .cmd ∧ t.tx.feed.svc = s.tx.feed.svc

theorem State.Inv708.of_keeps {s t : State} (hs : s.Inv708) (h : Keeps708 s t) : t.Inv708 := by
  obtain ⟨hdec, hsvc⟩ := hs
  refine ⟨by rwa [h.cfg, h.d708], fun hp => ?_⟩
  obtain ⟨hphase, hfeed⟩ := h.block hp
  exact hfeed ▸ hsvc hphase

theorem Keeps708.refl (s : State) : Keeps708 s s := ⟨rfl, rfl, fun h => ⟨h, rfl⟩⟩

theorem Keeps708.of_eq {s t : State} (h : t = s) : Keeps708 s t := h ▸ .refl s

theorem Keeps708.trans {s t u : State} (h : Keeps708 s t) (h' : Keeps708 t u) : Keeps708 s u := by
  refine ⟨h'.cfg.trans h.cfg, h'.d708.trans h.d708, fun hp => ?_⟩
  obtain ⟨hpt, hft⟩ := h'.block hp
  obtain ⟨hps, hfs⟩ := h.block hpt
  exact ⟨hps, hft.trans hfs⟩

/-- The case of an operation that moves to another stage. -/
theorem Keeps708.of_phase {s t : State} (hc : t.cfg = s.cfg) (hd : t.d708 = s.d708) (hp : t.phase ≠ .cmd) : Keeps708 s t :=
  ⟨hc, hd, fun h => absurd h hp⟩

/-- The case of an operation that stays in its stage. -/
theorem Keeps708.of_feed {s t : State} (hc : t.cfg = s.cfg) (hd : t.d708 = s.d708) (hp : t.phase = s.phase)
    (hf : t.tx.feed.svc = s.tx.feed.svc) : Keeps708 s t := ⟨hc, hd, fun h => ⟨hp ▸ h, hf⟩⟩

theorem State.advance_keeps708 (s : State) (n : Nat) : Keeps708 s (s.advance n) := by
  refine .of_feed (s.advance_cfg n) (s.advance_d708 n) (s.advance_phase n) ?_
  unfold State.advance
  cases s.phase
  case boxHeader => simp only [State.setTx_tx, Tx.passHeader]; split <;> rfl
  case boxDispatch => simp only [State.setTx_tx, Tx.passBox]; split <;> rfl
  case dec608 => simp only [State.setTx_tx, Tx.pass608]; split <;> rfl
  case dec708 => simp only [State.setTx_tx, Tx.pass708]; split <;> rfl
  all_goals rfl

theorem State.takeError_keeps708 (s : State) (e : Event) (a : Bool) : Keeps708 s (s.takeError e a) :=
  .of_phase rfl rfl (by simp)

theorem State.setPhase_keeps708 (s : State) {p : Phase} (hp : p ≠ .cmd) : Keeps708 s (s.setPhase p) := .of_phase rfl rfl hp

theorem State.finish_keeps708 (s : State) (a : Bool) : Keeps708 s (s.finish a) := .of_phase rfl rfl (by simp)

theorem State.logEvents_keeps708 (s : State) (es : List Event) : Keeps708 s (s.logEvents es) := .of_feed rfl rfl rfl rfl

/-! ### Boxes -/

theorem State.onAcc_keeps708 (s : State) (f : InitAcc → InitAcc) : Keeps708 s (s.onAcc f) := .of_feed rfl rfl rfl rfl

theorem State.onSlots_keeps708 (s : State) (f : Slots → Slots) : Keeps708 s (s.onSlots f) := .of_feed rfl rfl rfl rfl

theorem State.leaveBox_keeps708 (s : State) : Keeps708 s s.leaveBox := .of_phase rfl rfl (by simp)

theorem State.children_keeps708 (s : State) (trak encv : Option Nat) : Keeps708 s (s.children trak encv) :=
  s.leaveBox_keeps708.trans (.of_feed rfl rfl rfl rfl)

theorem State.decodeBox_keeps708 {α : Type} (s : State) (p : Rd α) (k : α → State → State)
    (hk : ∀ v u, Keeps708 u (k v u)) : Keeps708 s (s.decodeBox p k) := by
  rcases s.decodeBox_cases p k with ⟨e, -, h⟩ | ⟨v, r, -, h⟩
  · exact h ▸ s.takeError_keeps708 _ _
  · exact h ▸ s.leaveBox_keeps708.trans (hk v _)

theorem State.openBox_keeps708 (s : State) (size : Nat) (type : Fourcc) : Keeps708 s (s.openBox size type) := by
  cases hf : s.tx.frames with
  | nil =>
    have h : s.openBox size type = s := by simp only [State.openBox, hf]
    exact .of_eq h
  | cons f r =>
    rcases s.openBox_cases size type f r hf with ⟨-, h⟩ | ⟨-, h⟩
    · exact h ▸ .of_phase rfl rfl nofun
    · exact h ▸ .of_phase rfl rfl nofun

theorem State.visualEntry_keeps708 (s : State) (codec : Option Codec) (encv : Option Nat) :
    Keeps708 s (s.visualEntry codec encv) :=
  (s.onAcc_keeps708 _).trans (State.decodeBox_keeps708 _ _ _ fun _ _ => .of_feed rfl rfl rfl rfl)

theorem State.startWalk_keeps708 (s : State) (moof bmdt ts : Nat) (samples : List Sample) :
    Keeps708 s (s.startWalk moof bmdt ts samples) := by
  rcases s.startWalk_cases moof bmdt ts samples with h | ⟨d, -, -, -, h⟩
  · exact .of_eq h
  · exact h ▸ .of_phase rfl rfl nofun

theorem Tx.recordTiming_feed (t : Tx) (ts : Nat) (samples : List Sample) : (t.recordTiming ts samples).feed = t.feed := by
  rcases t.recordTiming_cases ts samples with ⟨h, -⟩ | ⟨_, -, -, h⟩ <;> rw [h]

theorem State.recordTiming_keeps708 (s : State) (ts : Nat) (samples : List Sample) :
    Keeps708 s (s.setTx (s.tx.recordTiming ts samples)) :=
  .of_feed rfl rfl rfl (by rw [State.setTx_tx, Tx.recordTiming_feed])

theorem State.scanMdat_keeps708 (s : State) : Keeps708 s s.scanMdat := by
  unfold State.scanMdat
  split
  · exact .refl s
  · split
    · exact s.takeError_keeps708 _ _
    · split
      · exact s.takeError_keeps708 _ _
      · split
        · exact s.takeError_keeps708 _ _
        · exact (s.recordTiming_keeps708 _ _).trans (State.startWalk_keeps708 ..)

theorem State.setMdat_keeps708 (s : State) (m : MdatRange) : Keeps708 s { s with tx := { s.tx with mdat := m } } :=
  .of_feed rfl rfl rfl rfl

/-! ### The elementary stream and the 608 decoder -/

theorem State.queue608_keeps708 (s : State) (field : BitVec 1) (d1 d2 : Byte) : Keeps708 s (s.queue608 field d1 d2) := by
  rcases s.queue608_cases field d1 d2 with ⟨-, h⟩ | ⟨-, h⟩
  · exact .of_eq h
  · exact h ▸ .of_feed rfl rfl rfl rfl

theorem State.queue708_keeps708 (s : State) (start : Bool) (d1 d2 : Byte) : Keeps708 s (s.queue708 start d1 d2) := by
  rcases s.queue708_cases start d1 d2 with ⟨-, h⟩ | ⟨-, h⟩
  · exact .of_eq h
  · exact h ▸ .of_feed rfl rfl rfl rfl

theorem State.onChan_keeps708 (s : State) (k : BitVec 2) (f : Chan608 → Eff608) : Keeps708 s (s.onChan k f) :=
  .of_feed rfl rfl rfl rfl

theorem State.routeControl_keeps708 (s : State) (chan : BitVec 1) : Keeps708 s (s.routeControl chan) :=
  .of_feed rfl rfl rfl rfl

theorem State.control608_keeps708 (s : State) (chan : BitVec 1) (v : Pair) (f : BitVec 2 → Chan608 → Eff608) :
    Keeps708 s (s.control608 chan v f) := by
  rw [State.control608_eq]
  exact (s.routeControl_keeps708 chan).trans (State.onChan_keeps708 ..)

/-! ### The instructions -/

/-- A box header or box instruction leaves the 708 decoder alone. -/
theorem exec_box_keeps708 {i : Instr} (hi : i.stage = .boxHeader ∨ i.stage = .boxDispatch) (s : State) :
    ∃ t, exec i s = .next t ∧ Keeps708 s t := by
  cases i with
  | boxSizeLiteral size type => exact ⟨_, rfl, s.openBox_keeps708 ..⟩
  | boxSizeRest type => exact ⟨_, rfl, s.openBox_keeps708 ..⟩
  | boxLargesize type large =>
    show ∃ t, execBoxLargesize type large s = .next t ∧ _
    unfold execBoxLargesize
    split
    · exact ⟨_, rfl, s.takeError_keeps708 ..⟩
    · exact ⟨_, rfl, s.openBox_keeps708 ..⟩
  | boxFullVf version flags => exact ⟨_, rfl, .of_feed rfl rfl rfl rfl⟩
  | boxUnregistered type => exact ⟨_, rfl, s.leaveBox_keeps708⟩
  | boxMoov | boxMdia | boxMinf | boxStbl | boxMvex | boxSinf | boxTraf => exact ⟨_, rfl, s.children_keeps708 ..⟩
  | boxTrak => exact ⟨_, rfl, (s.onAcc_keeps708 _).trans (State.children_keeps708 ..)⟩
  | boxMoof => exact ⟨_, rfl, (s.onSlots_keeps708 _).trans (State.children_keeps708 ..)⟩
  | boxAvc1 | boxAvc3 | boxHvc1 | boxHev1 => exact ⟨_, rfl, s.visualEntry_keeps708 ..⟩
  | boxEncv => exact ⟨_, rfl, (s.onAcc_keeps708 _).trans (State.visualEntry_keeps708 ..)⟩
  | boxStsd | boxFrma | boxMvhd | boxTkhd | boxMdhd | boxTrex | boxTfhd | boxTfdt | boxTrun | boxEmsg | boxEmsgV1 | boxSidx
  | boxElst | boxTenc | boxPrft =>
    exact ⟨_, rfl, s.decodeBox_keeps708 _ _ fun _ _ => .of_feed rfl rfl rfl rfl⟩
  | boxMdat => exact ⟨_, rfl, ((s.setMdat_keeps708 _).trans (State.leaveBox_keeps708 _)).trans (State.scanMdat_keeps708 _)⟩
  | _ => rcases hi with hi | hi <;> cases hi

/-- A NAL unit, SEI message, T.35 payload or cc triple leaves the 708 decoder alone. -/
theorem exec_stream_keeps708 {i : Instr} (hi : i.stage ∈ [Phase.nal, .sei, .t35, .cc]) (s : State) :
    ∃ t, exec i s = .next t ∧ Keeps708 s t := by
  cases i with
  | nalH264Sei | nalH265SeiPre | nalH265SeiSuf | seiT35 | t35Rejected => exact ⟨_, rfl, .of_phase rfl rfl nofun⟩
  | nalH264Other | nalH265Other | nalShort | seiOther => exact ⟨_, rfl, .of_feed rfl rfl rfl rfl⟩
  | t35AtscCc ign7 ign5 count =>
    show ∃ t, execT35AtscCc ign7 ign5 count s = .next t ∧ _
    unfold execT35AtscCc
    split
    · exact ⟨_, rfl, s.takeError_keeps708 ..⟩
    · exact ⟨_, rfl, .of_phase rfl rfl nofun⟩
  | cc608F0 | cc608F1 => exact ⟨_, rfl, s.queue608_keeps708 ..⟩
  | ccDtvccData | ccDtvccStart => exact ⟨_, rfl, s.queue708_keeps708 ..⟩
  | ccInvalid => exact ⟨_, rfl, .refl s⟩
  | _ => exact absurd hi (by simp [Instr.stage, langOf, Lang.stage])

/-- A 608 pair leaves the 708 decoder alone. -/
theorem exec_pair_keeps708 {i : Instr} (hi : i.stage = .dec608) (s : State) :
    ∃ t, exec i s = .next t ∧ Keeps708 s t := by
  cases i with
  | bad608 c1 c2 =>
    show ∃ t, execBad608 c1 c2 s = .next t ∧ _
    simp only [execBad608]
    split
    · exact ⟨_, rfl, .of_feed rfl rfl rfl rfl⟩
    · exact ⟨_, rfl, .of_feed rfl rfl rfl rfl⟩
  | null608 => exact ⟨_, rfl, .of_feed rfl rfl rfl rfl⟩
  | dup608 => exact ⟨_, rfl, (s.routeControl_keeps708 _).trans (State.onChan_keeps708 ..)⟩
  | basic608 => exact ⟨_, rfl, s.onChan_keeps708 ..⟩
  | pac608 | midrow608 | bg608 | bgBlack608 | special608 | extended608 | unrecognized608 | rcl608 | bs608 | aof608 | aon608 | der608
  | ru2608 | ru3608 | ru4608 | fon608 | rdc608 | tr608 | rtd608 | edm608 | cr608 | enm608 | eoc608 =>
    exact ⟨_, rfl, s.control608_keeps708 ..⟩
  | _ => cases hi

/-! ### Control transitions and bytes that do not fit -/

theorem State.checkDisabled_keeps708 (s : State) : Keeps708 s s.checkDisabled := by
  unfold State.checkDisabled
  split
  · exact .of_phase rfl rfl nofun
  · exact .of_phase rfl rfl nofun

theorem State.checkSegment_keeps708 (s : State) : Keeps708 s s.checkSegment := by
  unfold State.checkSegment
  split
  · exact .of_phase rfl rfl nofun
  · split
    · exact s.checkDisabled_keeps708
    · exact .of_phase rfl rfl nofun

theorem State.endInit_keeps708 (s : State) : Keeps708 s s.endInit := by
  have h : Keeps708 s ((s.setInit (initContext s.tx.initSpace s.tx.acc)).setDisabled
      (disabledBy (initContext s.tx.initSpace s.tx.acc).bitstream)) := .of_feed rfl rfl rfl rfl
  exact (h.trans (State.logEvents_keeps708 ..)).trans (State.checkDisabled_keeps708 _)

theorem State.endPass_keeps708 (s : State) : Keeps708 s s.endPass := by
  unfold State.endPass
  split
  · exact s.endInit_keeps708
  · exact .of_phase rfl rfl nofun
  · exact s.finish_keeps708 _

theorem State.endLevel_keeps708 (s : State) : Keeps708 s s.endLevel := by
  unfold State.endLevel
  split
  · exact s.endPass_keeps708
  · exact .of_feed rfl rfl rfl rfl

theorem State.complete_keeps708 (s : State) : Keeps708 s s.complete := .of_phase rfl rfl nofun

theorem State.overrun_keeps708 (s : State) (svc : BitVec 6) (index : Nat) : Keeps708 s (s.overrun svc index) :=
  .of_phase rfl rfl nofun

/-- Every control transition but that of the idle block leaves the 708 decoder alone. -/
theorem State.control_keeps708 (s : State) (hp : s.phase ≠ .idle) : Keeps708 s s.control := by
  unfold State.control
  cases h : s.phase
  case idle => exact absurd h hp
  case boxHeader => exact s.endLevel_keeps708
  case boxDispatch | t35 => exact .refl s
  case dec708 => exact s.complete_keeps708
  all_goals exact s.setPhase_keeps708 nofun

/-- Bytes that do not fit leave the 708 decoder alone. -/
theorem State.reject_keeps708 (s : State) (e : DecodeError) : Keeps708 s (s.reject e) := by
  unfold State.reject
  cases s.phase
  case idle => exact .refl s
  case boxHeader | boxDispatch | t35 | cc => exact s.takeError_keeps708 _ _
  case nal | sei | dec608 => exact s.setPhase_keeps708 nofun
  case dec708 => exact s.complete_keeps708
  case svc | cmd => exact s.overrun_keeps708 _ _

/-! ## Maps -/

theorem mem_mapPut {n : Nat} {α : Type} {k : BitVec n} {v : α} {m : List (BitVec n × α)} {p : BitVec n × α}
    (hp : p ∈ mapPut k v m) : p = (k, v) ∨ p ∈ m := by
  induction m with
  | nil => simpa [mapPut] using hp
  | cons q r ih =>
    unfold mapPut at hp
    split_ifs at hp
    · exact (List.mem_cons.mp hp).imp_right (List.mem_cons_of_mem q)
    · exact List.mem_cons.mp hp
    · rcases List.mem_cons.mp hp with rfl | hp
      · exact .inr List.mem_cons_self
      · exact (ih hp).imp_right (List.mem_cons_of_mem q)

/-- A write keeps the rising key order. -/
theorem mapPut_rising {n : Nat} {α : Type} {k : BitVec n} {v : α} {m : List (BitVec n × α)}
    (h : m.Pairwise fun p q => p.1.toNat < q.1.toNat) : (mapPut k v m).Pairwise fun p q => p.1.toNat < q.1.toNat := by
  induction m with
  | nil => simp [mapPut]
  | cons q r ih =>
    obtain ⟨hq, hr⟩ := List.pairwise_cons.mp h
    unfold mapPut
    split_ifs with hk hlt
    · exact List.pairwise_cons.mpr ⟨fun p hp => hk ▸ hq p hp, hr⟩
    · refine List.pairwise_cons.mpr ⟨fun p hp => ?_, h⟩
      rcases List.mem_cons.mp hp with rfl | hp
      · exact hlt
      · exact hlt.trans (hq p hp)
    · refine List.pairwise_cons.mpr ⟨fun p hp => ?_, ih hr⟩
      rcases mem_mapPut hp with rfl | hp
      · have : k.toNat ≠ q.1.toNat := fun e => hk (BitVec.eq_of_toNat_eq e)
        show q.1.toNat < k.toNat
        omega
      · exact hq p hp

/-- A second write of a key replaces the first. -/
theorem mapPut_mapPut {n : Nat} {α : Type} (k : BitVec n) (u v : α) (m : List (BitVec n × α)) :
    mapPut k v (mapPut k u m) = mapPut k v m := by
  induction m with
  | nil => simp [mapPut]
  | cons q r ih =>
    rw [mapPut]
    split_ifs with hk hlt <;> simp [mapPut, *]

theorem mem_of_mapGet {n : Nat} {α : Type} {k : BitVec n} {v : α} {m : List (BitVec n × α)} (h : mapGet k m = some v) :
    (k, v) ∈ m := by
  obtain ⟨l₁, l₂, rfl, -⟩ := List.lookup_eq_some_iff.mp h
  simp

@[simp] theorem State.putService_putService (s : State) (a b : Service) : (s.putService a).putService b = s.putService b := by
  simp [State.putService, mapPut_mapPut]

/-! ## Legal windows -/

/-- Being legal is about the sizes, the pen's position and the shape of the memory. -/
theorem Window.Legal.of_shape {cfg : Params} {v w : Window} (h : v.Legal cfg) (hr : w.rowCount = v.rowCount)
    (hc : w.colCount = v.colCount) (hpr : w.pen.row ≤ 15) (hpc : w.pen.col ≤ 64) (hrows : w.mem.length = v.mem.length)
    (hcols : ∀ row ∈ w.mem, row.length = cfg.w708Cols) : w.Legal cfg :=
  ⟨hr ▸ h.rowCount, hc ▸ h.colCount, hpr, hpc, hrows.trans h.rows, hcols⟩

/-- The case of an operation that leaves sizes, memory and pen position. -/
theorem Window.Legal.of_same {cfg : Params} {v w : Window} (h : v.Legal cfg) (hr : w.rowCount = v.rowCount)
    (hc : w.colCount = v.colCount) (hpr : w.pen.row = v.pen.row) (hpc : w.pen.col = v.pen.col) (hm : w.mem = v.mem) :
    w.Legal cfg := h.of_shape hr hc (hpr ▸ h.penRow) (hpc ▸ h.penCol) (hm ▸ rfl) (hm ▸ h.cols)

/-- The case of an operation that writes the memory alone. -/
theorem Window.Legal.withMem {cfg : Params} {w : Window} (h : w.Legal cfg) (m : WinMem) (hrows : m.length = w.mem.length)
    (hcols : ∀ row ∈ m, row.length = cfg.w708Cols) : ({ w with mem := m } : Window).Legal cfg :=
  h.of_shape rfl rfl h.penRow h.penCol hrows hcols

theorem Window.Legal.penAt {cfg : Params} {w : Window} (h : w.Legal cfg) {r c : Nat} (hr : r ≤ 15) (hc : c ≤ 64) :
    (w.penAt r c).Legal cfg := h.of_shape rfl rfl hr hc rfl h.cols

@[simp] theorem WinRow.length_blank (row : WinRow) : row.blank.length = row.length := List.length_replicate

/-- The rows after one of them is rewritten at its width. -/
theorem length_of_mem_modify {m : WinMem} {n r : Nat} {f : WinRow → WinRow} (hf : ∀ row, (f row).length = row.length)
    (h : ∀ row ∈ m, row.length = n) : ∀ row ∈ m.modify r f, row.length = n := by
  intro row hrow
  obtain ⟨i, hi⟩ := List.mem_iff_getElem?.mp hrow
  rw [List.getElem?_modify] at hi
  obtain ⟨old, hold, rfl⟩ := Option.map_eq_some_iff.mp hi
  have := h old (List.mem_of_getElem? hold)
  split
  · rw [hf, this]
  · exact this

theorem Window.Legal.setCell {cfg : Params} {w : Window} (h : w.Legal cfg) (r c : Nat) (x : Option Cell708) :
    (w.setCell r c x).Legal cfg :=
  h.withMem _ (List.length_modify ..) (length_of_mem_modify (fun _ => List.length_set) h.cols)

theorem Window.Legal.clearRow {cfg : Params} {w : Window} (h : w.Legal cfg) (r : Nat) : (w.clearRow r).Legal cfg :=
  h.withMem _ (List.length_modify ..) (length_of_mem_modify WinRow.length_blank h.cols)

theorem Window.Legal.clearMem {cfg : Params} {w : Window} (h : w.Legal cfg) : w.clearMem.Legal cfg := by
  refine h.withMem _ (List.length_map _) fun row hrow => ?_
  obtain ⟨old, hold, rfl⟩ := List.mem_map.mp hrow
  rw [WinRow.length_blank, h.cols old hold]

theorem Window.Legal.scrollUp {cfg : Params} {w : Window} (h : w.Legal cfg) : w.scrollUp.Legal cfg := by
  refine h.withMem _ List.length_mapIdx fun row hrow => ?_
  obtain ⟨i, hi, rfl⟩ := List.mem_mapIdx.mp hrow
  have hold := h.cols _ (List.getElem_mem hi)
  split_ifs
  · cases hn : w.mem[i + 1]? with
    | none => simpa using hold
    | some next => exact h.cols next (List.mem_of_getElem? hn)
  · simpa using hold
  · exact hold

theorem penInBounds_iff {w : Window} : penInBounds w = true ↔ w.pen.row < w.rowCount ∧ w.pen.col < w.colCount := by
  simp [penInBounds]

theorem Window.Legal.write {cfg : Params} {w : Window} (h : w.Legal cfg) (g : Str) : (w.write g).Legal cfg := by
  unfold Window.write
  split
  · next hb =>
    obtain ⟨-, hcol⟩ := penInBounds_iff.mp hb
    have := h.colCount
    exact (h.setCell ..).penAt h.penRow (by omega)
  · exact h

theorem Window.Legal.backspace {cfg : Params} {w : Window} (h : w.Legal cfg) : w.backspace.Legal cfg := by
  have hrow := h.penRow
  have hcol := h.penCol
  have hcc := h.colCount
  unfold Window.backspace
  split_ifs
  · exact (h.setCell ..).penAt hrow (by omega)
  · exact (h.setCell ..).penAt (by omega) (by omega)
  · exact h
  · exact h

theorem Window.Legal.carriageReturn {cfg : Params} {w : Window} (h : w.Legal cfg) : w.carriageReturn.Legal cfg := by
  have hrc := h.rowCount
  unfold Window.carriageReturn
  split
  · exact h.penAt (by omega) (by omega)
  · exact h.scrollUp.penAt h.penRow (by omega)

theorem Window.Legal.emitIfVisible {cfg : Params} {w : Window} (h : w.Legal cfg) (p : Params) (n : BitVec 6) (pts : Rat) :
    (emitIfVisible p n pts w).1.Legal cfg := by
  rw [emitIfVisible_eq]
  exact h.of_same rfl rfl rfl rfl rfl

theorem Window.Legal.showWindow {cfg : Params} {w : Window} (h : w.Legal cfg) (pts : Rat) : (showWindow pts w).Legal cfg := by
  unfold Machine.showWindow
  split
  · exact h
  · exact h.of_same rfl rfl rfl rfl rfl

theorem newWindow_legal (cfg : Params) (pts : Rat) : (newWindow cfg pts).Legal cfg where
  rowCount := by simp [newWindow]
  colCount := by simp [newWindow]
  penRow := Nat.zero_le 15
  penCol := Nat.zero_le 64
  rows := List.length_replicate
  cols row hrow := by
    rw [List.eq_of_mem_replicate hrow, List.length_replicate]

/-- The sizes that DFx gives are in range (45 R405). -/
theorem dfxFields_sizes (p1 p2 p3 p4 p5 p6 : Byte) :
    (dfxFields p1 p2 p3 p4 p5 p6).rc = p4.toNat % 16 + 1 ∧ (dfxFields p1 p2 p3 p4 p5 p6).cc = p5.toNat % 64 + 1 := by
  have h4 : p4.toNat &&& 15 = p4.toNat % 16 := Nat.and_two_pow_sub_one_eq_mod _ 4
  have h5 : p5.toNat &&& 63 = p5.toNat % 64 := Nat.and_two_pow_sub_one_eq_mod _ 6
  simp [dfxFields, h4, h5]

theorem defineWindow_legal {cfg : Params} {pts : Rat} {f : DfxFields} {old : Option Window} (hr : 1 ≤ f.rc ∧ f.rc ≤ 16)
    (hc : 1 ≤ f.cc ∧ f.cc ≤ 64) (hold : ∀ w, old = some w → w.Legal cfg) : (defineWindow cfg pts f old).Legal cfg := by
  have hw : (old.getD (newWindow cfg pts)).Legal cfg := by
    cases old with
    | none => exact newWindow_legal cfg pts
    | some w => exact hold w rfl
  refine ⟨hr, hc, ?_, ?_, hw.rows, hw.cols⟩
  · dsimp only [defineWindow]
    split
    · exact Nat.zero_le 15
    · exact hw.penRow
  · dsimp only [defineWindow]
    split
    · exact Nat.zero_le 64
    · exact hw.penCol

/-! ## Legal services -/

/-- The windows that a service gets by writing one of them. -/
theorem Service.Legal.setWindow {cfg : Params} {sv : Service} (h : sv.Legal cfg) (x : BitVec 3) {w : Window}
    (hw : w.Legal cfg) {cur : Option (BitVec 3)} (hcur : cur = some x ∨ cur = sv.current) :
    Service.Legal cfg { win := sv.win.set x.toNat (some w) x.isLt, current := cur } where
  win i v hv := by
    simp only [Fin.getElem_fin, Vector.getElem_set] at hv
    split at hv
    · cases hv; exact hw
    · exact h.win i v hv
  current y hy := by
    rw [Vector.getElem_set]
    split
    · rfl
    · next hne =>
      rcases hcur with rfl | rfl
      · cases hy; exact absurd rfl hne
      · exact h.current y hy

theorem Service.reset_legal (cfg : Params) : Service.reset.Legal cfg where
  win i w h := by simp [Service.reset] at h
  current x h := by simp [Service.reset] at h

/-! ## Legal states -/

theorem Dec708.reset_legal (cfg : Params) : Dec708.reset.Legal cfg where
  builder := ⟨by decide, by decide, by decide⟩
  rising := List.Pairwise.nil
  numbers := nofun
  services := nofun

/-- The service of the block being run is legal. -/
theorem State.Inv708.curService {s : State} (h : s.Inv708) : s.curService.Legal s.cfg := by
  obtain ⟨hdec, -⟩ := h
  unfold State.curService
  cases hg : mapGet s.tx.feed.svc s.d708.svc with
  | none => exact Service.reset_legal _
  | some sv => exact hdec.services _ (mem_of_mapGet hg)

/-- Writing a legal service keeps the decoder legal, for a service other than 0. -/
theorem State.Inv708.putService {s : State} (h : s.Inv708) (hn : s.tx.feed.svc ≠ 0) {sv : Service} (hsv : sv.Legal s.cfg) :
    (s.putService sv).Inv708 := by
  obtain ⟨hdec, hsvc⟩ := h
  refine ⟨⟨hdec.builder, mapPut_rising hdec.rising, fun p hp => ?_, fun p hp => ?_⟩, hsvc⟩
  · rcases mem_mapPut hp with rfl | hp
    · exact hn
    · exact hdec.numbers p hp
  · rcases mem_mapPut hp with rfl | hp
    · exact hsv
    · exact hdec.services p hp

theorem State.Inv708.emitCues {s : State} (h : s.Inv708) (cs : List Cue) : (s.emitCues cs).Inv708 := h

/-- Writing the packet builder keeps the decoder legal. -/
theorem State.Inv708.setBuilder {s : State} (h : s.Inv708) {b : Builder} (hb : b.Legal) :
    (s.setD708 { s.d708 with builder := b }).Inv708 := by
  obtain ⟨hdec, hsvc⟩ := h
  exact ⟨⟨hb, hdec.rising, hdec.numbers, hdec.services⟩, hsvc⟩

/-- A command on the current window keeps the decoder legal where it keeps a window legal. -/
theorem State.Inv708.onCurrent {s : State} (h : s.Inv708) (hn : s.tx.feed.svc ≠ 0) (f : Window → Window × List Cue)
    (hf : ∀ w : Window, w.Legal s.cfg → (f w).1.Legal s.cfg) : (s.onCurrent f).Inv708 := by
  rcases s.onCurrent_cases f with ⟨-, he⟩ | ⟨x, w, hw, he⟩ <;> rw [he]
  · exact h
  · obtain ⟨-, hwin⟩ := Service.curWin_eq_some.mp hw
    have hlegal := h.curService
    exact (h.putService hn (hlegal.setWindow x (hf w (hlegal.win ⟨x.toNat, x.isLt⟩ w hwin)) (.inr rfl))).emitCues _

/-- A command on selected windows writes a service with the same pointer, whose windows are what the command makes of them. -/
theorem State.onWindows_service (s : State) (sel : Nat → Bool) (f : Window → Option Window × List Cue) :
    ∃ cues sv, s.onWindows sel f = (s.putService sv).emitCues cues ∧ sv.current = s.curService.current ∧
      ∀ i : Fin 8, sv.win[i] = if sel i then s.curService.win[i].bind fun w => (f w).1 else s.curService.win[i] := by
  obtain ⟨cues, win, h, hw⟩ := s.onWindows_win sel f
  exact ⟨cues, _, h, rfl, hw⟩

/-- The windows that a command on selected windows leaves are legal where it makes legal windows of legal ones. -/
theorem legal_of_selected {cfg : Params} {sv sv' : Service} {sel : Nat → Bool} {f : Window → Option Window × List Cue}
    (h : sv.Legal cfg)
    (hwin : ∀ i : Fin 8, sv'.win[i] = if sel i then sv.win[i].bind fun w => (f w).1 else sv.win[i])
    (hf : ∀ w v : Window, w.Legal cfg → (f w).1 = some v → v.Legal cfg) :
    ∀ (i : Fin 8) (w : Window), sv'.win[i] = some w → w.Legal cfg := by
  intro i v hv
  rw [hwin i] at hv
  split at hv
  · obtain ⟨w, hw, hfw⟩ := Option.bind_eq_some_iff.mp hv
    exact hf w v (h.win i w hw) hfw
  · exact h.win i v hv

/-- A command that keeps each selected window, legal, keeps the decoder legal. -/
theorem State.Inv708.onWindows {s : State} (h : s.Inv708) (hn : s.tx.feed.svc ≠ 0) (sel : Nat → Bool)
    (f : Window → Option Window × List Cue)
    (hf : ∀ w : Window, w.Legal s.cfg → ∃ v : Window, (f w).1 = some v ∧ v.Legal s.cfg) : (s.onWindows sel f).Inv708 := by
  have hlegal := h.curService
  obtain ⟨cues, sv, he, hcur, hwin⟩ := s.onWindows_service sel f
  rw [he]
  refine (h.putService hn ⟨legal_of_selected hlegal hwin ?_, fun x hx => ?_⟩).emitCues _
  · intro w v hw hv
    obtain ⟨v', hv', hlegal'⟩ := hf w hw
    rw [hv] at hv'
    cases hv'
    exact hlegal'
  · have hpresent := hlegal.current x (hcur ▸ hx)
    obtain ⟨w, hw⟩ := Option.isSome_iff_exists.mp hpresent
    obtain ⟨v, hv, -⟩ := hf w (hlegal.win ⟨x.toNat, x.isLt⟩ w hw)
    have hx8 := hwin ⟨x.toNat, x.isLt⟩
    simp only [Fin.getElem_fin, hw] at hx8
    rw [hx8]
    split <;> simp [hv]

/-- Writing legal windows and then no current-window pointer keeps the decoder legal. -/
theorem State.Inv708.putNoCurrent {s : State} (h : s.Inv708) (hn : s.tx.feed.svc ≠ 0) {sv : Service} (cues : List Cue)
    (hwin : ∀ (i : Fin 8) (w : Window), sv.win[i] = some w → w.Legal s.cfg) :
    (((s.putService sv).emitCues cues).putService { sv with current := none }).Inv708 := by
  have hsv : Service.Legal s.cfg { sv with current := none } := ⟨hwin, fun _ hx => by cases hx⟩
  show (((s.putService sv).putService { sv with current := none }).emitCues cues).Inv708
  rw [State.putService_putService]
  exact (h.putService hn hsv).emitCues cues

/-- DLW keeps the decoder legal: the pointer of a deleted window becomes none (45 R385). -/
theorem State.Inv708.deleteWindows {s : State} (h : s.Inv708) (hn : s.tx.feed.svc ≠ 0) (sel : Nat → Bool)
    (g : Window → List Cue) :
    ((s.onWindows sel fun w => (none, g w)).dropCurrent (s.curService.currentIn sel)).Inv708 := by
  have hlegal := h.curService
  obtain ⟨cues, sv, he, hcur, hwin⟩ := s.onWindows_service sel fun w => (none, g w)
  have hwins := legal_of_selected hlegal hwin fun _ _ _ hv => by cases hv
  rw [he]
  unfold State.dropCurrent
  split
  · rw [State.curService_emitCues, State.curService_putService]
    exact h.putNoCurrent hn cues hwins
  · next hkept =>
    refine (h.putService hn ⟨hwins, fun x hx => ?_⟩).emitCues cues
    rw [hcur] at hx
    have hpresent := hlegal.current x hx
    have hsel : sel x.toNat = false := by simpa [Service.currentIn, hx, hpresent] using hkept
    have hx8 := hwin ⟨x.toNat, x.isLt⟩
    simp only [Fin.getElem_fin, hsel] at hx8
    rw [hx8]
    exact hpresent

/-- RST keeps the decoder legal: no window is left, and no pointer (45 R388). -/
theorem State.Inv708.removeAll {s t : State} (h : s.Inv708) (hn : s.tx.feed.svc ≠ 0) (g : Window → List Cue)
    (ht : t = s.onWindows (fun _ => true) fun w => (none, g w)) :
    (t.putService { t.curService with current := none }).Inv708 := by
  obtain ⟨cues, sv, he, -, hwin⟩ := s.onWindows_service (fun _ => true) fun w => (none, g w)
  have hwins := legal_of_selected (sel := fun _ => true) h.curService hwin fun _ _ _ hv => by cases hv
  rw [ht, he, State.curService_emitCues, State.curService_putService]
  exact h.putNoCurrent hn cues hwins

/-! ## The instructions of the 708 stages -/

/-- A packet is 1 to 127 bytes long (45 R361). -/
theorem packetLength_range (code : BitVec 6) : packetLength code ≠ 0 ∧ packetLength code ≤ 127 := by
  have hlt := code.isLt
  unfold packetLength
  split_ifs with hc
  · decide
  · have : code.toNat ≠ 0 := fun e => hc (BitVec.eq_of_toNat_eq e)
    omega

theorem Builder.legal_open {n : Nat} {bytes : List (Byte × Rat)} (hn : n ≠ 0) (hsize : bytes.length + n ≤ 127) :
    Builder.Legal { isOpen := true, remaining := n, bytes := bytes } :=
  ⟨by simpa using hn, nofun, hsize⟩

theorem Builder.reset_legal : Builder.reset.Legal := ⟨by decide, by decide, by decide⟩

theorem execDtvccPacketStart_inv708 {s : State} (h : s.Inv708) (seq : BitVec 2) (code : BitVec 6) :
    ∃ t, execDtvccPacketStart seq code s = .next t ∧ t.Inv708 := by
  obtain ⟨hn, hle⟩ := packetLength_range code
  have hb : Builder.Legal { isOpen := true, remaining := packetLength code, bytes := [] } :=
    Builder.legal_open hn (by simpa using hle)
  refine ⟨_, rfl, State.Inv708.setBuilder (h.of_keeps ?_) hb⟩
  split
  · exact .of_feed rfl rfl rfl rfl
  · exact .refl s

theorem execDtvccData_inv708 {s : State} (h : s.Inv708) (value : Byte) :
    ∃ t, execDtvccData value s = .next t ∧ t.Inv708 := by
  obtain ⟨hopen, -, hsize⟩ := h.1.builder
  unfold execDtvccData
  dsimp only
  split
  · next ho =>
    have hpos := hopen.mp ho
    split
    · next hleft =>
      refine ⟨_, rfl, h.setBuilder (Builder.legal_open (by simpa [openAfter] using hleft) ?_)⟩
      rw [List.length_append, List.length_singleton]
      omega
    · exact ⟨_, rfl, (h.setBuilder Builder.reset_legal).of_keeps (.of_phase rfl rfl nofun)⟩
  · exact ⟨_, rfl, h⟩

/-- Entering a block of a service other than 0 keeps the decoder legal. -/
theorem State.Inv708.enterBlock {s : State} (h : s.Inv708) {n : BitVec 6} (hn : n ≠ 0) (size : Nat) :
    (s.enterBlock n size).Inv708 := by
  obtain ⟨hdec, -⟩ := h
  unfold State.enterBlock
  have hin : State.Inv708 { s with
      phase := .cmd, tx := { s.tx with feed := { s.tx.feed with svc := n, blockEnd := s.tx.feed.pos + size } } } :=
    ⟨hdec, fun _ => hn⟩
  exact hin.putService hn hin.curService

theorem State.skipBlock_keeps708 (s : State) (size : Nat) : Keeps708 s (s.skipBlock size) := .of_feed rfl rfl rfl rfl

/-- A byte of the 708 queue keeps the decoder legal. -/
theorem exec_packet_inv708 {i : Instr} (hi : i.stage = .dec708) {s : State} (h : s.Inv708) :
    ∃ t, exec i s = .next t ∧ t.Inv708 := by
  cases i with
  | dtvccPacketStart seq code => exact execDtvccPacketStart_inv708 h seq code
  | dtvccData value => exact execDtvccData_inv708 h value
  | _ => cases hi

/-- A service block header keeps the decoder legal; the short form names a service other than 0. -/
theorem exec_block_inv708 {i : Instr} (hi : i.stage = .svc) (hsvc : ∀ a b, i = .svcHeader a b → a ≠ 0) {s : State}
    (h : s.Inv708) : ∃ t, exec i s = .next t ∧ t.Inv708 := by
  cases i with
  | svcHeader svc size =>
    have hne : ∀ a : BitVec 3, a ≠ 0 → (0#3 ++ a : BitVec (3 + 3)) ≠ 0#6 := by decide
    exact ⟨_, rfl, h.enterBlock (hne svc (hsvc svc size rfl)) _⟩
  | svcExtended size ign svc =>
    show ∃ t, execSvcExtended size ign svc s = .next t ∧ _
    unfold execSvcExtended
    split
    · exact ⟨_, rfl, h.of_keeps (s.skipBlock_keeps708 _)⟩
    · next hn => exact ⟨_, rfl, h.enterBlock hn _⟩
  | svcNullOrEmpty => exact ⟨_, rfl, h.of_keeps (s.skipBlock_keeps708 _)⟩
  | _ => cases hi

theorem execCwx_inv708 {s : State} (h : s.Inv708) (hn : s.tx.feed.svc ≠ 0) (x : BitVec 3) :
    ∃ t, execCwx x s = .next t ∧ t.Inv708 := by
  unfold execCwx
  dsimp only
  split
  · next hx =>
    refine ⟨_, rfl, h.putService hn ⟨h.curService.win, fun y hy => ?_⟩⟩
    cases hy
    exact hx
  · exact ⟨_, rfl, h⟩

theorem execDfx_inv708 {s : State} (h : s.Inv708) (hn : s.tx.feed.svc ≠ 0) (x : BitVec 3) (p1 p2 p3 p4 p5 p6 : Byte) :
    ∃ t, execDfx x p1 p2 p3 p4 p5 p6 s = .next t ∧ t.Inv708 := by
  obtain ⟨hrc, hcc⟩ := dfxFields_sizes p1 p2 p3 p4 p5 p6
  have hlegal := h.curService
  refine ⟨_, rfl, h.putService hn (hlegal.setWindow x (defineWindow_legal ?_ ?_ fun w hw => ?_) (.inl rfl))⟩
  · omega
  · omega
  · exact hlegal.win ⟨x.toNat, x.isLt⟩ w hw

/-- A code of a block of a service other than 0 keeps the decoder legal. -/
theorem exec_code_inv708 {i : Instr} (hi : i.stage = .cmd) {s : State} (h : s.Inv708) (hn : s.tx.feed.svc ≠ 0) :
    ∃ t, exec i s = .next t ∧ t.Inv708 := by
  cases i with
  | c0Nop | dly | dlc | c1Reserved | c2Skip0 | c2Skip1 | c2Skip2 | c2Skip3 | c3Skip4 | c3Skip5 | c3Skip0 => exact ⟨_, rfl, h⟩
  | ext1 => exact ⟨_, rfl, h.of_keeps (.of_feed rfl rfl rfl rfl)⟩
  | c0Bs => exact ⟨_, rfl, h.onCurrent hn _ fun w hw => hw.backspace⟩
  | c0Ff =>
    exact ⟨_, rfl, h.onCurrent hn _ fun w hw => (hw.emitIfVisible ..).clearMem.penAt (Nat.zero_le 15) (Nat.zero_le 64)⟩
  | c0Cr => exact ⟨_, rfl, h.onCurrent hn _ fun w hw => (hw.emitIfVisible ..).carriageReturn⟩
  | c0Hcr =>
    exact ⟨_, rfl, h.onCurrent hn _ fun w hw => ((hw.emitIfVisible ..).clearRow _).penAt hw.penRow (Nat.zero_le 64)⟩
  | g0 | g0Note | g1 | g2 | g3 => exact ⟨_, rfl, h.onCurrent hn _ fun w hw => hw.write _⟩
  | spa | spc | swa => exact ⟨_, rfl, h.onCurrent hn _ fun w hw => hw.of_same rfl rfl rfl rfl rfl⟩
  | spl p1 p2 =>
    refine ⟨_, rfl, h.onCurrent hn _ fun w hw => hw.penAt ?_ ?_⟩
    · rw [BitVec.toNat_and]
      exact Nat.and_le_right
    · rw [BitVec.toNat_and]
      exact Nat.and_le_right.trans (by decide)
  | cwx x => exact execCwx_inv708 h hn x
  | dfx x p1 p2 p3 p4 p5 p6 => exact execDfx_inv708 h hn x p1 p2 p3 p4 p5 p6
  | clw => exact ⟨_, rfl, h.onWindows hn _ _ fun w hw => ⟨_, rfl, (hw.emitIfVisible ..).clearMem⟩⟩
  | dsw => exact ⟨_, rfl, h.onWindows hn _ _ fun w hw => ⟨_, rfl, hw.showWindow _⟩⟩
  | hdw => exact ⟨_, rfl, h.onWindows hn _ _ fun w hw => ⟨_, rfl, (hw.emitIfVisible ..).of_same rfl rfl rfl rfl rfl⟩⟩
  | tgw =>
    refine ⟨_, rfl, h.onWindows hn _ _ fun w hw => ?_⟩
    dsimp only
    split
    · exact ⟨_, rfl, (hw.emitIfVisible ..).of_same rfl rfl rfl rfl rfl⟩
    · exact ⟨_, rfl, hw.of_same rfl rfl rfl rfl rfl⟩
  | dlw => exact ⟨_, rfl, h.deleteWindows hn _ _⟩
  | rst => exact ⟨_, rfl, h.removeAll hn _ rfl⟩
  | _ => cases hi

/-! ## Every step keeps the 708 decoder legal -/

/-- An instruction of the active stage keeps the 708 decoder legal; a short block header names a service other than 0. -/
theorem exec_inv708 {i : Instr} {s : State} (hi : i.stage = s.phase) (hsvc : ∀ a b, i = .svcHeader a b → a ≠ 0)
    (h : s.Inv708) : ∃ t, exec i s = .next t ∧ t.Inv708 := by
  have keep : (∃ t, exec i s = .next t ∧ Keeps708 s t) → ∃ t, exec i s = .next t ∧ t.Inv708 :=
    fun ⟨t, ht, hk⟩ => ⟨t, ht, h.of_keeps hk⟩
  cases hp : s.phase <;> rw [hp] at hi
  case idle => exact absurd hi (Lang.stage_ne_idle _)
  case boxHeader => exact keep (exec_box_keeps708 (.inl hi) s)
  case boxDispatch => exact keep (exec_box_keeps708 (.inr hi) s)
  case nal | sei | t35 | cc => exact keep (exec_stream_keeps708 (by simp [hi]) s)
  case dec608 => exact keep (exec_pair_keeps708 hi s)
  case dec708 => exact exec_packet_inv708 hi h
  case svc => exact exec_block_inv708 hi hsvc h
  case cmd => exact exec_code_inv708 hi h (h.2 hp)

/-- CLEAR, and a SUBMIT with its CLEAR of a new period, reset the 708 decoder or leave it (70 R501, 43 R231). -/
theorem State.Inv708.clear {s : State} (h : s.Inv708) : s.clear.Inv708 := ⟨Dec708.reset_legal _, h.2⟩

theorem State.Inv708.submit {s : State} (h : s.Inv708) (hp : s.phase = .idle) (init media : List Byte) (seg per : Str) :
    (s.submit init media seg per).Inv708 := by
  have hper : (s.checkPeriod per).Inv708 ∧ (s.checkPeriod per).phase = .idle := by
    unfold State.checkPeriod
    split
    · exact ⟨h, hp⟩
    · exact ⟨h.clear, hp⟩
  have hbegin : Keeps708 (s.checkPeriod per) ((s.checkPeriod per).beginSubmit init media seg per) :=
    .of_phase rfl rfl (by simp [hper.2])
  exact hper.1.of_keeps (hbegin.trans (State.checkSegment_keeps708 _))

theorem State.Inv708.nextTransaction {s : State} (h : s.Inv708) (hp : s.phase = .idle) : s.nextTransaction.Inv708 := by
  unfold State.nextTransaction
  split
  · exact h
  · exact h.clear
  · next r _ => exact State.Inv708.submit (s := s.setInbox r) h hp ..

theorem State.Inv708.control {s : State} (h : s.Inv708) : s.control.Inv708 := by
  by_cases hp : s.phase = .idle
  · simp only [State.control, hp]
    exact h.nextTransaction hp
  · exact h.of_keeps (s.control_keeps708 hp)

end Sys2Proof.Machine

open Sys2Proof Sys2Proof.Machine

/-- Settles O10, by the stage that the step belongs to: only a packet byte, a block header, a code of a block and a new transaction
touch the 708 decoder. -/
theorem legalCea708IsKept : Obligations.LegalCea708IsKept := by
  intro s t h hstep
  rcases step_cases s with ⟨-, hs⟩ | ⟨l, bs, e, -, -, hs⟩ | ⟨l, bs, i, n, hf, hd, hs⟩
  · cases hs.symm.trans hstep
    exact h.control
  · cases hs.symm.trans hstep
    exact h.of_keeps (s.reject_keeps708 e)
  · have hi : i.stage = (s.advance n).phase := by
      rw [State.advance_phase, decode_stage hd, fetchPoint_stage hf]
    obtain ⟨u, hu, hinv⟩ := exec_inv708 hi (fun a b e => decode_svcHeader (e ▸ hd)) (h.of_keeps (s.advance_keeps708 n))
    cases (hu.symm.trans hs.symm).trans hstep
    exact hinv
namespace Sys2Proof.Machine

/-! ## Characters -/

/-- The memory of a legal window holds W708_ROWS by W708_COLS positions (00_scope.md R8). -/
theorem Window.Legal.holds_iff {cfg : Params} {w : Window} (h : w.Legal cfg) (r c : Nat) :
    w.Holds r c ↔ r < cfg.w708Rows ∧ c < cfg.w708Cols := by
  rw [← h.rows]
  by_cases hr : r < w.mem.length
  · simp [Window.Holds, hr, h.cols _ (List.getElem_mem hr)]
  · simp [Window.Holds, hr]

/-- What the pen writes: a glyph in the pen's style (45 R401). -/
def Pen.cell (p : Pen) (g : Str) : Cell708 := { glyph := g, ul := p.ul, it := p.it, fg := p.fg, bg := p.bg }

theorem Window.write_inBounds {w : Window} (hr : w.pen.row < w.rowCount) (hc : w.pen.col < w.colCount) (g : Str) :
    w.write g = (w.setCell w.pen.row w.pen.col (some (w.pen.cell g))).penAt w.pen.row (w.pen.col + 1) :=
  if_pos (penInBounds_iff.mpr ⟨hr, hc⟩)

theorem Window.write_outOfBounds {w : Window} (h : w.rowCount ≤ w.pen.row ∨ w.colCount ≤ w.pen.col) (g : Str) :
    w.write g = w := by
  refine if_neg fun hb => ?_
  obtain ⟨hr, hc⟩ := penInBounds_iff.mp hb
  omega

/-- As `cell_setCell`, with what the memory holds said at the cell that is read. -/
theorem Window.cell_setCell_holds (w : Window) (r c r' c' : Nat) (x : Option Cell708) :
    (w.setCell r c x).cell r' c' = if r' = r ∧ c' = c ∧ w.Holds r' c' then x else w.cell r' c' := by
  rw [Window.cell_setCell]
  refine if_congr ⟨?_, ?_⟩ rfl rfl
  · rintro ⟨rfl, rfl, h⟩
    exact ⟨rfl, rfl, h⟩
  · rintro ⟨rfl, rfl, h⟩
    exact ⟨rfl, rfl, h⟩

/-- A command that writes a glyph on the current window leaves that window with the glyph at the pen. -/
theorem onCurrent_write_result {s : State} {x : BitVec 3} {w : Window} (h : s.IsCurrent x w) (g : Str) :
    WindowResult s (s.onCurrent fun w => (w.write g, [])) x (w.write g) [] := onCurrent_result s x w h _

/-! ## Selecting and defining windows -/

/-- Writing the block's service leaves the builder, the other services, and all outside the 708 decoder. -/
theorem State.putService_frame (s : State) (sv : Service) : ServiceFrame s (s.putService sv) where
  same := rfl
  builder := rfl
  others _ hn := s.service_putService sv _ hn

@[simp] theorem State.curWindow_putService (s : State) (sv : Service) (y : BitVec 3) :
    (s.putService sv).curWindow y = sv.win[y.toNat]'y.isLt := by
  simp [State.curWindow]

/-- CWx writes at most the pointer of the block's service, where the window it names is present (45 R380). -/
theorem execCwx_result (s : State) (x : BitVec 3) :
    ∃ t, execCwx x s = .next t ∧ ServiceFrame s t ∧ t.tx.cues = s.tx.cues ∧ (∀ y, t.curWindow y = s.curWindow y) ∧
      t.curService.current = if (s.curWindow x).isSome then some x else s.curService.current := by
  unfold execCwx
  dsimp only
  split
  · next hx =>
    have hpresent : (s.curWindow x).isSome = true := hx
    rw [if_pos hpresent]
    exact ⟨_, rfl, s.putService_frame _, rfl, fun y => s.curWindow_putService _ y, by rw [State.curService_putService]⟩
  · next hx =>
    have habsent : ¬ (s.curWindow x).isSome = true := hx
    rw [if_neg habsent]
    exact ⟨s, rfl, ⟨rfl, rfl, fun _ _ => rfl⟩, rfl, fun _ => rfl, rfl⟩

/-- DFx writes its window, made from what stood there, and points at it (45 R394). -/
theorem execDfx_result (s : State) (x : BitVec 3) (p1 p2 p3 p4 p5 p6 : Byte) :
    ∃ t, execDfx x p1 p2 p3 p4 p5 p6 s = .next t ∧ ServiceFrame s t ∧ t.tx.cues = s.tx.cues ∧
      t.curService.current = some x ∧ (∀ y, y ≠ x → t.curWindow y = s.curWindow y) ∧
      t.curWindow x = some (defineWindow s.cfg s.tx.feed.pts (dfxFields p1 p2 p3 p4 p5 p6) (s.curWindow x)) := by
  refine ⟨_, rfl, s.putService_frame _, rfl, by rw [State.curService_putService], fun y hy => ?_, ?_⟩
  · have hne : x.toNat ≠ y.toNat := fun e => hy (BitVec.eq_of_toNat_eq e).symm
    simp [State.curWindow, hne]
  · simp [State.curWindow]

/-- The anchor fields of DFx as numbers (45 R405). -/
theorem dfxFields_anchor (p1 p2 p3 p4 p5 p6 : Byte) :
    (dfxFields p1 p2 p3 p4 p5 p6).va.toNat = p2.toNat % 128 ∧ (dfxFields p1 p2 p3 p4 p5 p6).aid.toNat = p4.toNat / 16 := by
  have h4 := p4.isLt
  simp only [dfxFields, BitVec.extractLsb'_toNat, Nat.shiftRight_eq_div_pow]
  omega

/-- The pen style that keeps the pen is one other than 0 (45 R394). -/
theorem dfxFields_penStyle_eq_zero_iff (p1 p2 p3 p4 p5 p6 : Byte) :
    (dfxFields p1 p2 p3 p4 p5 p6).penStyle = 0 ↔ p6.toNat % 8 = 0 := by
  simp [dfxFields, BitVec.toNat_eq]

/-- DFx resets the pen of a window that existed exactly where its pen style is 0 (45 R394). -/
theorem defineWindow_some_pen (cfg : Params) (pts : Rat) (f : DfxFields) (w : Window) :
    (defineWindow cfg pts f (some w)).pen = if f.penStyle = 0 then Pen.reset else w.pen := by
  simp [defineWindow]

/-- An empty memory has no cell. -/
theorem WinMem.cell_empty (cfg : Params) (r c : Nat) : (((WinMem.empty cfg)[r]?).bind (·[c]?)).join = none := by
  unfold WinMem.empty
  by_cases hr : r < cfg.w708Rows
  · by_cases hc : c < cfg.w708Cols <;> simp [hr, hc]
  · simp [hr]

end Sys2Proof.Machine

/-- Settles O48: the five characters write their glyph by the one operation of 45 R401. -/
theorem charactersAreWrittenAtThePen : Obligations.CharactersAreWrittenAtThePen := by
  intro s x w a hcur
  refine ⟨Window.Legal.holds_iff, fun p hp => ?_⟩
  have hexec : exec p.1 s = .next (s.onCurrent fun w => (w.write p.2, [])) := by
    simp only [List.mem_cons, List.not_mem_nil, or_false] at hp
    rcases hp with rfl | rfl | rfl | rfl | rfl <;> rfl
  refine ⟨_, _, hexec, onCurrent_write_result hcur p.2, fun hr hc => ?_, fun hout => Window.write_outOfBounds hout p.2⟩
  rw [Window.write_inBounds hr hc]
  exact ⟨rfl, fun r c => w.cell_setCell_holds _ _ r c _⟩

/-- Settles O54, by what CWx and DFx write; the six bytes give the fields, and whether a window existed the rest. -/
theorem windowsAreSelectedAndDefined : Obligations.WindowsAreSelectedAndDefined := by
  intro s x
  refine ⟨execCwx_result s x, fun p1 p2 p3 p4 p5 p6 => ?_⟩
  obtain ⟨t, ht, hframe, hcues, hcur, hothers, hwin⟩ := execDfx_result s x p1 p2 p3 p4 p5 p6
  obtain ⟨hva, haid⟩ := dfxFields_anchor p1 p2 p3 p4 p5 p6
  obtain ⟨hrc, hcc⟩ := dfxFields_sizes p1 p2 p3 p4 p5 p6
  refine ⟨t, _, ht, hframe, hcues, hcur, hothers, hwin, rfl, rfl, hva, rfl, haid, hrc, hcc, fun hnone => ?_, fun w hw => ?_⟩
  · rw [hnone]
    exact ⟨rfl, rfl, WinMem.cell_empty s.cfg, by simp [defineWindow, newWindow], rfl⟩
  · rw [hw]
    refine ⟨rfl, rfl, ?_, ?_⟩
    · simp [defineWindow, dfxFields]
    · simp only [defineWindow_some_pen, dfxFields_penStyle_eq_zero_iff]
      rfl
end

section
/-! SUPPORT. The family of 10_state.md: what a step leaves of the state (O8), and that every step keeps the 608 decoder legal (O9),
the dedup set and the idle state in order (O13) and the cursors in range (O14); where a step fetches (O6), and the assembly of
packets (O57). All but O6 and O57 rest on `step_inv`, what a step can be, and O8, O9 and O13 on `step_frame`, what it leaves. -/

namespace Sys2Proof.Machine

/-! ## What a step can be -/

/-- A step is a control transition, the rejection of bytes that do not fit, or an instruction of the active stage. -/
theorem step_inv {s t : State} (h : step s = .next t) :
    (s.fetchPoint = none ∧ t = s.control) ∨
    (∃ l bs e, s.fetchPoint = some (l, bs) ∧ decode l bs = .error e ∧ t = s.reject e) ∨
    ∃ l bs i n, s.fetchPoint = some (l, bs) ∧ decode l bs = .ok (i, n) ∧ i.stage = s.phase ∧ exec i (s.advance n) = .next t := by
  rcases step_cases s with ⟨hf, hs⟩ | ⟨l, bs, e, hf, hd, hs⟩ | ⟨l, bs, i, n, hf, hd, hs⟩
  · cases hs.symm.trans h
    exact .inl ⟨hf, rfl⟩
  · cases hs.symm.trans h
    exact .inr (.inl ⟨l, bs, e, hf, hd, rfl⟩)
  · exact .inr (.inr ⟨l, bs, i, n, hf, hd, (decode_stage hd).trans (fetchPoint_stage hf), hs.symm.trans h⟩)

/-! ## What a step leaves of the state -/

/-- The SUBMIT in progress at `s` goes on at `t`: of the configuration and of S nothing but the decoders may differ, and what its end
needs, the period and what a failure puts back, is as before. -/
structure KeepsSubmit (s t : State) : Prop where
  cfg : t.cfg = s.cfg := by rfl
  init : t.init = s.init := by rfl
  disabled : t.disabled = s.disabled := by rfl
  dedup : t.dedup = s.dedup := by rfl
  found : t.tx.found = s.tx.found := by rfl
  perId : t.tx.perId = s.tx.perId := by rfl
  phase : s.phase ≠ .idle → t.phase ≠ .idle

/-- The SUBMIT goes on, and neither decoder is written. -/
structure Parses (s t : State) : Prop extends KeepsSubmit s t where
  d608 : t.d608 = s.d608 := by rfl
  d708 : t.d708 = s.d708 := by rfl

/-- The SUBMIT fails: S is as the SUBMIT found it, and the block is idle (60 R472, R473). -/
structure Fails (s t : State) : Prop where
  cfg : t.cfg = s.cfg := by rfl
  phase : t.phase = .idle := by rfl
  tx : t.tx = .empty := by rfl
  left : LeftAsFound s t

theorem Parses.refl (s : State) : Parses s s := { phase := id }

theorem Parses.of_eq {s t : State} (h : t = s) : Parses s t := h ▸ .refl s

theorem KeepsSubmit.trans {s t u : State} (h : KeepsSubmit s t) (h' : KeepsSubmit t u) : KeepsSubmit s u where
  cfg := h'.cfg.trans h.cfg
  init := h'.init.trans h.init
  disabled := h'.disabled.trans h.disabled
  dedup := h'.dedup.trans h.dedup
  found := h'.found.trans h.found
  perId := h'.perId.trans h.perId
  phase := h'.phase ∘ h.phase

theorem Parses.trans {s t u : State} (h : Parses s t) (h' : Parses t u) : Parses s u :=
  { h.toKeepsSubmit.trans h'.toKeepsSubmit with d608 := h'.d608.trans h.d608, d708 := h'.d708.trans h.d708 }

/-- A failure after a part of the parse is a failure of the whole. -/
theorem Fails.of_parses {s t u : State} (h : Parses s t) (h' : Fails t u) : Fails s u where
  cfg := h'.cfg.trans h.cfg
  phase := h'.phase
  tx := h'.tx
  left :=
    { init := h'.left.init.trans (congrArg Found.init h.found)
      disabled := h'.left.disabled.trans (congrArg Found.disabled h.found)
      dedup := h'.left.dedup.trans h.dedup
      d608 := h'.left.d608.trans h.d608
      d708 := h'.left.d708.trans h.d708 }

theorem State.takeError_fails (s : State) (e : Event) (a : Bool) : Fails s (s.takeError e a) where
  left := ⟨rfl, rfl, rfl, rfl, rfl⟩

/-- What an instruction of the parse does: the SUBMIT goes on or fails, and neither decoder is written. -/
def ParsesOrFails (s t : State) : Prop := Parses s t ∨ Fails s t

theorem Parses.orFails {s t : State} (h : Parses s t) : ParsesOrFails s t := .inl h

theorem ParsesOrFails.after {s t u : State} (h' : ParsesOrFails t u) (h : Parses s t) : ParsesOrFails s u :=
  h'.imp h.trans (.of_parses h)

theorem State.takeError_parsesOrFails (s : State) (e : Event) (a : Bool) : ParsesOrFails s (s.takeError e a) :=
  .inr (s.takeError_fails e a)

theorem State.setPhase_parses (s : State) {p : Phase} (hp : p ≠ .idle) : Parses s (s.setPhase p) := { phase := fun _ => hp }

/-- The cursor's advance writes cursors, the queues and the feed only. -/
theorem State.advance_parses (s : State) (n : Nat) : Parses s (s.advance n) := by
  unfold State.advance
  cases s.phase <;> dsimp only
  case boxHeader => unfold Tx.passHeader; split <;> exact { phase := id }
  case boxDispatch => unfold Tx.passBox; split <;> exact { phase := id }
  case dec608 => unfold Tx.pass608; split <;> exact { phase := id }
  case dec708 => unfold Tx.pass708; split <;> exact { phase := id }
  all_goals exact { phase := id }

/-! ### Boxes -/

theorem State.leaveBox_parses (s : State) : Parses s s.leaveBox := { phase := nofun }

theorem State.onAcc_parses (s : State) (f : InitAcc → InitAcc) : Parses s (s.onAcc f) := { phase := id }

theorem State.onSlots_parses (s : State) (f : Slots → Slots) : Parses s (s.onSlots f) := { phase := id }

theorem State.enterLevel_parses (s : State) (pos : Nat) (count trak encv : Option Nat) :
    Parses s (s.enterLevel pos count trak encv) := { phase := id }

theorem State.children_parses (s : State) (trak encv : Option Nat) : Parses s (s.children trak encv) :=
  s.leaveBox_parses.trans (State.enterLevel_parses ..)

theorem State.decodeBox_parsesOrFails {α : Type} (s : State) (p : Rd α) (k : α → State → State)
    (hk : ∀ v u, Parses u (k v u)) : ParsesOrFails s (s.decodeBox p k) := by
  rcases s.decodeBox_cases p k with ⟨e, -, h⟩ | ⟨v, r, -, h⟩
  · exact h ▸ s.takeError_parsesOrFails _ _
  · exact h ▸ (s.leaveBox_parses.trans (hk v _)).orFails

theorem State.openBox_parses (s : State) (size : Nat) (type : Fourcc) : Parses s (s.openBox size type) := by
  cases hf : s.tx.frames with
  | nil =>
    have h : s.openBox size type = s := by simp only [State.openBox, hf]
    exact .of_eq h
  | cons f r =>
    rcases s.openBox_cases size type f r hf with ⟨-, h⟩ | ⟨-, h⟩
    · exact h ▸ { phase := nofun }
    · exact h ▸ { phase := nofun }

theorem State.visualEntry_parsesOrFails (s : State) (codec : Option Codec) (encv : Option Nat) :
    ParsesOrFails s (s.visualEntry codec encv) :=
  (State.decodeBox_parsesOrFails _ _ _ fun _ _ => State.enterLevel_parses ..).after (s.onAcc_parses _)

theorem State.recordTiming_parses (s : State) (ts : Nat) (samples : List Sample) :
    Parses s (s.setTx (s.tx.recordTiming ts samples)) := by
  rcases s.tx.recordTiming_cases ts samples with ⟨h, -⟩ | ⟨_, -, -, h⟩ <;> rw [h]
  · exact { phase := id }
  · exact { phase := id }

theorem State.startWalk_parses (s : State) (moof bmdt ts : Nat) (samples : List Sample) :
    Parses s (s.startWalk moof bmdt ts samples) := by
  rcases s.startWalk_cases moof bmdt ts samples with h | ⟨d, -, -, -, h⟩
  · exact .of_eq h
  · exact h ▸ { phase := nofun }

theorem State.scanMdat_parsesOrFails (s : State) : ParsesOrFails s s.scanMdat := by
  unfold State.scanMdat
  split
  · exact (Parses.refl s).orFails
  · split
    · exact s.takeError_parsesOrFails _ _
    · split
      · exact s.takeError_parsesOrFails _ _
      · split
        · exact s.takeError_parsesOrFails _ _
        · exact ((s.recordTiming_parses _ _).trans (State.startWalk_parses ..)).orFails

/-- A box header or a box parses on, or fails. -/
theorem exec_box_parsesOrFails {i : Instr} (hi : i.stage = .boxHeader ∨ i.stage = .boxDispatch) (s : State) :
    ∃ t, exec i s = .next t ∧ ParsesOrFails s t := by
  cases i with
  | boxSizeLiteral | boxSizeRest => exact ⟨_, rfl, (s.openBox_parses ..).orFails⟩
  | boxLargesize type large =>
    show ∃ t, execBoxLargesize type large s = .next t ∧ _
    unfold execBoxLargesize
    split
    · exact ⟨_, rfl, s.takeError_parsesOrFails ..⟩
    · exact ⟨_, rfl, (s.openBox_parses ..).orFails⟩
  | boxFullVf => exact ⟨_, rfl, .inl { phase := id }⟩
  | boxUnregistered => exact ⟨_, rfl, s.leaveBox_parses.orFails⟩
  | boxMoov | boxMdia | boxMinf | boxStbl | boxMvex | boxSinf | boxTraf => exact ⟨_, rfl, (s.children_parses ..).orFails⟩
  | boxTrak => exact ⟨_, rfl, ((s.onAcc_parses _).trans (State.children_parses ..)).orFails⟩
  | boxMoof => exact ⟨_, rfl, ((s.onSlots_parses _).trans (State.children_parses ..)).orFails⟩
  | boxAvc1 | boxAvc3 | boxHvc1 | boxHev1 => exact ⟨_, rfl, s.visualEntry_parsesOrFails ..⟩
  | boxEncv => exact ⟨_, rfl, (State.visualEntry_parsesOrFails ..).after (s.onAcc_parses _)⟩
  | boxStsd | boxFrma | boxMvhd | boxTkhd | boxMdhd | boxTrex | boxTfhd | boxTfdt | boxTrun | boxEmsg | boxEmsgV1 | boxSidx
  | boxElst | boxTenc | boxPrft => exact ⟨_, rfl, s.decodeBox_parsesOrFails _ _ fun _ _ => { phase := id }⟩
  | boxMdat =>
    have hset : Parses s { s with
        tx := { s.tx with mdat := { start := s.tx.box.base, length := s.tx.box.stop - s.tx.box.base } } } := { phase := id }
    exact ⟨_, rfl, (State.scanMdat_parsesOrFails _).after (hset.trans (State.leaveBox_parses _))⟩
  | _ => rcases hi with hi | hi <;> cases hi

/-! ### The elementary stream -/

/-- A NAL unit or a SEI message parses on: neither can fail (43 R241, R246). -/
theorem exec_message_parses {i : Instr} (hi : i.stage = .nal ∨ i.stage = .sei) (s : State) :
    ∃ t, exec i s = .next t ∧ Parses s t := by
  cases i with
  | nalH264Sei | nalH265SeiPre | nalH265SeiSuf | seiT35 => exact ⟨_, rfl, { phase := nofun }⟩
  | nalH264Other | nalH265Other | nalShort | seiOther => exact ⟨_, rfl, { phase := id }⟩
  | _ => rcases hi with hi | hi <;> cases hi

theorem State.queue608_parses (s : State) (field : BitVec 1) (d1 d2 : Byte) : Parses s (s.queue608 field d1 d2) := by
  rcases s.queue608_cases field d1 d2 with ⟨-, h⟩ | ⟨-, h⟩
  · exact .of_eq h
  · exact h ▸ { phase := id }

theorem State.queue708_parses (s : State) (start : Bool) (d1 d2 : Byte) : Parses s (s.queue708 start d1 d2) := by
  rcases s.queue708_cases start d1 d2 with ⟨-, h⟩ | ⟨-, h⟩
  · exact .of_eq h
  · exact h ▸ { phase := id }

/-- A T.35 payload or a cc triple parses on, or fails. -/
theorem exec_payload_parsesOrFails {i : Instr} (hi : i.stage = .t35 ∨ i.stage = .cc) (s : State) :
    ∃ t, exec i s = .next t ∧ ParsesOrFails s t := by
  cases i with
  | t35AtscCc ign7 ign5 count =>
    show ∃ t, execT35AtscCc ign7 ign5 count s = .next t ∧ _
    unfold execT35AtscCc
    split
    · exact ⟨_, rfl, s.takeError_parsesOrFails ..⟩
    · exact ⟨_, rfl, .inl { phase := nofun }⟩
  | t35Rejected => exact ⟨_, rfl, .inl { phase := nofun }⟩
  | cc608F0 | cc608F1 => exact ⟨_, rfl, (s.queue608_parses ..).orFails⟩
  | ccDtvccData | ccDtvccStart => exact ⟨_, rfl, (s.queue708_parses ..).orFails⟩
  | ccInvalid => exact ⟨_, rfl, (Parses.refl s).orFails⟩
  | _ => rcases hi with hi | hi <;> cases hi

/-! ### The decoders -/

/-- A 608 pair writes the 608 decoder and gives cues and events, and nothing else (44 R314). -/
theorem exec_pair_same608 {i : Instr} (hi : i.stage = .dec608) (s : State) : ∃ t, exec i s = .next t ∧ Same608 s t := by
  cases i with
  | bad608 c1 c2 =>
    show ∃ t, execBad608 c1 c2 s = .next t ∧ _
    simp only [execBad608]
    split
    · exact ⟨_, rfl, rfl⟩
    · exact ⟨_, rfl, rfl⟩
  | null608 | dup608 | basic608 | pac608 | midrow608 | bg608 | bgBlack608 | special608 | extended608 | unrecognized608 | rcl608
  | bs608 | aof608 | aon608 | der608 | ru2608 | ru3608 | ru4608 | fon608 | rdc608 | tr608 | rtd608 | edm608 | cr608 | enm608
  | eoc608 => exact ⟨_, rfl, rfl⟩
  | _ => cases hi

/-- The two states differ at most in the 708 decoder, the transaction's cues, and the latch of EXT1 (log entry 17). -/
def SameButCode (s t : State) : Prop :=
  t = { s with d708 := t.d708, tx := { s.tx with cues := t.tx.cues, feed := { s.tx.feed with ext := t.tx.feed.ext } } }

theorem State.onCurrent_sameButCode (s : State) (f : Window → Window × List Cue) : SameButCode s (s.onCurrent f) := by
  rcases s.onCurrent_cases f with ⟨-, h⟩ | ⟨x, w, -, h⟩
  · rw [h]; rfl
  · rw [h]; rfl

/-- A 708 code writes the 708 decoder, gives cues and sets the latch of EXT1, and nothing else (45 R369, R370). -/
theorem exec_code_sameButCode {i : Instr} (hi : i.stage = .cmd) (s : State) : ∃ t, exec i s = .next t ∧ SameButCode s t := by
  cases i with
  | c0Nop | dly | dlc | c1Reserved | c2Skip0 | c2Skip1 | c2Skip2 | c2Skip3 | c3Skip4 | c3Skip5 | c3Skip0 | ext1 | clw | dsw | hdw
  | tgw | rst | dfx => exact ⟨_, rfl, rfl⟩
  | c0Bs | c0Ff | c0Cr | c0Hcr | g0 | g0Note | g1 | g2 | g3 | spa | spc | spl | swa =>
    exact ⟨_, rfl, s.onCurrent_sameButCode _⟩
  | cwx x =>
    show ∃ t, execCwx x s = .next t ∧ _
    simp only [execCwx]
    split
    · exact ⟨_, rfl, rfl⟩
    · exact ⟨_, rfl, rfl⟩
  | dlw bitmap =>
    show ∃ t, execDlw bitmap s = .next t ∧ _
    simp only [execDlw, State.dropCurrent]
    split
    · exact ⟨_, rfl, rfl⟩
    · exact ⟨_, rfl, rfl⟩
  | _ => cases hi

/-- The SUBMIT goes on, and the 608 decoder is not written. -/
structure Keeps608 (s t : State) : Prop extends KeepsSubmit s t where
  d608 : t.d608 = s.d608 := by rfl

theorem Parses.keeps608 {s t : State} (h : Parses s t) : Keeps608 s t := { h with }

theorem SameButCode.keeps608 {s t : State} (h : SameButCode s t) : Keeps608 s t := by
  rw [h]
  exact { phase := id }

/-- A byte of a packet leaves the 608 decoder alone. -/
theorem exec_packet_keeps608 {i : Instr} (hi : i.stage = .dec708) (s : State) : ∃ t, exec i s = .next t ∧ Keeps608 s t := by
  cases i with
  | dtvccPacketStart seq code =>
    show ∃ t, execDtvccPacketStart seq code s = .next t ∧ _
    simp only [execDtvccPacketStart]
    split
    · exact ⟨_, rfl, { phase := id }⟩
    · exact ⟨_, rfl, { phase := id }⟩
  | dtvccData value =>
    show ∃ t, execDtvccData value s = .next t ∧ _
    simp only [execDtvccData]
    split
    · split
      · exact ⟨_, rfl, { phase := id }⟩
      · exact ⟨_, rfl, { phase := nofun }⟩
    · exact ⟨_, rfl, { phase := id }⟩
  | _ => cases hi

/-- A service block header leaves the 608 decoder alone. -/
theorem exec_block_keeps608 {i : Instr} (hi : i.stage = .svc) (s : State) : ∃ t, exec i s = .next t ∧ Keeps608 s t := by
  cases i with
  | svcHeader => exact ⟨_, rfl, { phase := nofun }⟩
  | svcExtended size ign svc =>
    show ∃ t, execSvcExtended size ign svc s = .next t ∧ _
    unfold execSvcExtended
    split
    · exact ⟨_, rfl, { phase := id }⟩
    · exact ⟨_, rfl, { phase := nofun }⟩
  | svcNullOrEmpty => exact ⟨_, rfl, { phase := id }⟩
  | _ => cases hi

/-! ### Every stage -/

/-- What a step leaves: the SUBMIT goes on, or fails in a stage that reads boxes or a T.35 payload; and a decoder is written by its own
stages only. -/
structure StepFrame (s t : State) : Prop where
  submit : KeepsSubmit s t ∨ (s.phase ∈ [Phase.boxHeader, .boxDispatch, .t35, .cc] ∧ Fails s t)
  d608 : s.phase ≠ .dec608 → t.d608 = s.d608
  d708 : s.phase ∉ [Phase.dec708, .svc, .cmd] → t.d708 = s.d708

theorem StepFrame.cfg {s t : State} (h : StepFrame s t) : t.cfg = s.cfg := h.submit.elim (·.cfg) (·.2.cfg)

theorem StepFrame.dedup {s t : State} (h : StepFrame s t) : t.dedup = s.dedup := h.submit.elim (·.dedup) (·.2.left.dedup)

/-- Where no failure can arise, the init context and the flag are kept. -/
theorem StepFrame.init_kept {s t : State} (h : StepFrame s t) (hp : s.phase ∉ [Phase.boxHeader, .boxDispatch, .t35, .cc]) :
    t.init = s.init ∧ t.disabled = s.disabled := by
  rcases h.submit with hk | ⟨hq, -⟩
  · exact ⟨hk.init, hk.disabled⟩
  · exact absurd hq hp

theorem StepFrame.init_kept_or_left {s t : State} (h : StepFrame s t) :
    (t.init = s.init ∧ t.disabled = s.disabled) ∨ (t.phase = .idle ∧ LeftAsFound s t) :=
  h.submit.imp (fun hk => ⟨hk.init, hk.disabled⟩) fun ⟨_, hk⟩ => ⟨hk.phase, hk.left⟩

theorem StepFrame.found {s t : State} (h : StepFrame s t) (hne : t.phase ≠ .idle) : t.tx.found = s.tx.found := by
  rcases h.submit with hk | ⟨-, hk⟩
  · exact hk.found
  · exact absurd hk.phase hne

theorem Parses.stepFrame {s t : State} (h : Parses s t) : StepFrame s t :=
  ⟨.inl h.toKeepsSubmit, fun _ => h.d608, fun _ => h.d708⟩

theorem ParsesOrFails.stepFrame {s t : State} (hp : s.phase ∈ [Phase.boxHeader, .boxDispatch, .t35, .cc])
    (h : ParsesOrFails s t) : StepFrame s t := by
  rcases h with h | h
  · exact h.stepFrame
  · exact ⟨.inr ⟨hp, h⟩, fun _ => h.left.d608, fun _ => h.left.d708⟩

theorem Same608.stepFrame {s t : State} (hp : s.phase = .dec608) (h : Same608 s t) : StepFrame s t := by
  rw [h]
  exact ⟨.inl { phase := id }, fun hne => absurd hp hne, fun _ => rfl⟩

theorem Keeps608.stepFrame {s t : State} (hp : s.phase ∈ [Phase.dec708, .svc, .cmd]) (h : Keeps608 s t) : StepFrame s t :=
  ⟨.inl h.toKeepsSubmit, fun _ => h.d608, fun hne => absurd hp hne⟩

/-- What follows the cursor's advance leaves what the whole step leaves. -/
theorem StepFrame.of_advance {s t : State} {n : Nat} (h : StepFrame (s.advance n) t) : StepFrame s t := by
  obtain ⟨hsubmit, h608, h708⟩ := h
  have ha := s.advance_parses n
  rw [State.advance_phase] at hsubmit h608 h708
  exact ⟨hsubmit.imp ha.toKeepsSubmit.trans (.imp_right (.of_parses ha)), fun hp => (h608 hp).trans ha.d608,
    fun hp => (h708 hp).trans ha.d708⟩

/-- An instruction of the active stage leaves what its stage leaves. -/
theorem exec_frame {i : Instr} {s : State} (hi : i.stage = s.phase) : ∃ t, exec i s = .next t ∧ StepFrame s t := by
  cases hp : s.phase <;> rw [hp] at hi
  case idle => exact absurd hi (Lang.stage_ne_idle _)
  case boxHeader => exact (exec_box_parsesOrFails (.inl hi) s).imp fun t => .imp_right (ParsesOrFails.stepFrame (by simp [hp]))
  case boxDispatch => exact (exec_box_parsesOrFails (.inr hi) s).imp fun t => .imp_right (ParsesOrFails.stepFrame (by simp [hp]))
  case nal => exact (exec_message_parses (.inl hi) s).imp fun t => .imp_right Parses.stepFrame
  case sei => exact (exec_message_parses (.inr hi) s).imp fun t => .imp_right Parses.stepFrame
  case t35 => exact (exec_payload_parsesOrFails (.inl hi) s).imp fun t => .imp_right (ParsesOrFails.stepFrame (by simp [hp]))
  case cc => exact (exec_payload_parsesOrFails (.inr hi) s).imp fun t => .imp_right (ParsesOrFails.stepFrame (by simp [hp]))
  case dec608 => exact (exec_pair_same608 hi s).imp fun t => .imp_right (Same608.stepFrame hp)
  case dec708 => exact (exec_packet_keeps608 hi s).imp fun t => .imp_right (Keeps608.stepFrame (by simp [hp]))
  case svc => exact (exec_block_keeps608 hi s).imp fun t => .imp_right (Keeps608.stepFrame (by simp [hp]))
  case cmd =>
    exact (exec_code_sameButCode hi s).imp fun t => .imp_right fun h => h.keeps608.stepFrame (by simp [hp])

theorem State.overrun_parses (s : State) (svc : BitVec 6) (index : Nat) : Parses s (s.overrun svc index) := { phase := nofun }

/-- Bytes that do not fit leave what the stage leaves, but in the 708 queue, where every entry fits. -/
theorem State.reject_frame (s : State) (e : DecodeError) (hp : s.phase ≠ .dec708) : StepFrame s (s.reject e) := by
  unfold State.reject
  cases h : s.phase
  case idle => exact (Parses.refl s).stepFrame
  case boxHeader | boxDispatch | t35 | cc => exact ParsesOrFails.stepFrame (by simp [h]) (s.takeError_parsesOrFails _ _)
  case nal | sei | dec608 => exact Parses.stepFrame (s.setPhase_parses nofun)
  case dec708 => exact absurd h hp
  case svc | cmd => exact Parses.stepFrame (s.overrun_parses _ _)

/-- A control transition inside a SUBMIT leaves all of S, but at the end of a pass and at completion. -/
theorem State.control_parses (s : State) (hidle : s.phase ≠ .idle) (hpass : s.phase = .boxHeader → s.tx.frames ≠ [])
    (hdone : s.phase ≠ .dec708) : Parses s s.control := by
  unfold State.control
  cases h : s.phase
  case idle => exact absurd h hidle
  case boxHeader =>
    simp only [State.endLevel]
    split
    · next hf => exact absurd hf (hpass h)
    · exact { phase := id }
  case boxDispatch | t35 => exact .refl s
  case dec708 => exact absurd h hdone
  all_goals exact s.setPhase_parses nofun

/-- A byte of the 708 queue always decodes. -/
theorem decode_dtvcc_ok {s : State} {l : Lang} {bs : List Byte} (hp : s.phase = .dec708) (hf : s.fetchPoint = some (l, bs)) :
    ∃ i n, decode l bs = .ok (i, n) := by
  simp only [State.fetchPoint, hp, State.fetch708] at hf
  split at hf
  · cases hf
  · cases hf
    exact ⟨_, _, rfl⟩

/-- A step inside a SUBMIT leaves what its stage leaves, or ends a pass, or completes the segment. -/
theorem step_frame {s t : State} (h : step s = .next t) (hp : s.phase ≠ .idle) :
    StepFrame s t ∨ (s.phase = .boxHeader ∧ s.tx.frames = [] ∧ t = s.endPass) ∨ (s.phase = .dec708 ∧ t = s.complete) := by
  rcases step_inv h with ⟨-, rfl⟩ | ⟨l, bs, e, hf, hd, rfl⟩ | ⟨l, bs, i, n, -, -, hi, hx⟩
  · by_cases hpass : s.phase = .boxHeader ∧ s.tx.frames = []
    · exact .inr (.inl ⟨hpass.1, hpass.2, by simp only [State.control, hpass.1, State.endLevel, hpass.2]⟩)
    · by_cases hdone : s.phase = .dec708
      · exact .inr (.inr ⟨hdone, by simp only [State.control, hdone]⟩)
      · exact .inl (s.control_parses hp (fun hb hn => hpass ⟨hb, hn⟩) hdone).stepFrame
  · refine .inl (s.reject_frame e fun hq => ?_)
    obtain ⟨i, n, hok⟩ := decode_dtvcc_ok hq hf
    cases hok.symm.trans hd
  · obtain ⟨u, hu, hframe⟩ := exec_frame (s := s.advance n) (hi.trans (s.advance_phase n).symm)
    cases hu.symm.trans hx
    exact .inl hframe.of_advance

/-! ## The end of a pass and the start of a transaction -/

/-- Step 4 of 43 R230 ends the transaction or starts the media pass. -/
theorem State.checkDisabled_cases (s : State) :
    s.checkDisabled = (s.logEvent .extractionDisabled).finish false ∨ s.checkDisabled = s.startPass .media := by
  unfold State.checkDisabled
  split
  · exact .inl rfl
  · exact .inr rfl

/-- Steps 2 to 5 of 43 R230 end the transaction with an event or start a pass. -/
theorem State.checkSegment_cases (s : State) :
    (∃ e, s.checkSegment = (s.logEvent e).finish false) ∨ ∃ p, s.checkSegment = s.startPass p := by
  unfold State.checkSegment
  split
  · exact .inl ⟨_, rfl⟩
  · split
    · exact s.checkDisabled_cases.imp (fun h => ⟨_, h⟩) fun h => ⟨_, h⟩
    · exact .inr ⟨_, rfl⟩

/-- Step 1 of 43 R230 changes nothing in the period on record, else clears S and records the new one (R231). -/
theorem State.checkPeriod_cases (s : State) (period : Str) :
    (s.dedup.period = some period ∧ s.checkPeriod period = s) ∨
    s.checkPeriod period = (s.clear).setDedup { period := some period, seen := [] } := by
  unfold State.checkPeriod
  split
  · next h => exact .inl ⟨h, rfl⟩
  · exact .inr rfl

/-- The state with the init context, the flag and the event of a completed init pass (43 R233, R234). -/
def State.withParsedInit (s : State) : State :=
  let x := initContext s.tx.initSpace s.tx.acc
  ((s.setInit x).setDisabled (disabledBy x.bitstream)).logEvents (unknownEvents x.bitstream s.tx.acc)

theorem State.endInit_eq (s : State) : s.endInit = s.withParsedInit.checkDisabled := rfl

/-- What the end of a pass leaves: the decoders and the dedup context; S.init and the flag are written by the init pass only. The
transaction has ended, or goes on with its names and with what a failure puts back. -/
structure EndsPass (s t : State) : Prop where
  cfg : t.cfg = s.cfg := by rfl
  dedup : t.dedup = s.dedup := by rfl
  d608 : t.d608 = s.d608 := by rfl
  d708 : t.d708 = s.d708 := by rfl
  init : s.tx.pass ≠ .init → t.init = s.init ∧ t.disabled = s.disabled
  tx : (t.phase = .idle ∧ t.tx = .empty) ∨ (t.phase ≠ .idle ∧ t.tx.found = s.tx.found ∧ t.tx.perId = s.tx.perId)

theorem EndsPass.found {s t : State} (h : EndsPass s t) (hne : t.phase ≠ .idle) : t.tx.found = s.tx.found := by
  rcases h.tx with ⟨hidle, -⟩ | ⟨-, hfound, -⟩
  · exact absurd hidle hne
  · exact hfound

theorem State.endPass_endsPass (s : State) : EndsPass s s.endPass := by
  unfold State.endPass
  cases hp : s.tx.pass <;> dsimp only
  case init =>
    rw [State.endInit_eq]
    rcases s.withParsedInit.checkDisabled_cases with h | h <;> rw [h]
    · exact { init := fun hne => absurd hp hne, tx := .inl ⟨rfl, rfl⟩ }
    · exact { init := fun hne => absurd hp hne, tx := .inr ⟨nofun, rfl, rfl⟩ }
  case media => exact { init := fun _ => ⟨rfl, rfl⟩, tx := .inr ⟨nofun, rfl, rfl⟩ }
  case fields => exact { init := fun _ => ⟨rfl, rfl⟩, tx := .inl ⟨rfl, rfl⟩ }

/-- Between two transactions the block waits, takes a CLEAR, or takes a SUBMIT. -/
theorem State.nextTransaction_cases (s : State) :
    s.nextTransaction = s ∨
    (∃ r, s.nextTransaction = ((s.clear).setInbox r).setOutbox (s.outbox ++ [TxResult.ofClear])) ∨
    ∃ init media seg per r, s.nextTransaction =
      (((s.setInbox r).checkPeriod per).beginSubmit init media seg per).checkSegment := by
  unfold State.nextTransaction
  split
  · exact .inl rfl
  · exact .inr (.inl ⟨_, rfl⟩)
  · exact .inr (.inr ⟨_, _, _, _, _, rfl⟩)

@[simp] theorem State.nextTransaction_cfg (s : State) : s.nextTransaction.cfg = s.cfg := by
  rcases s.nextTransaction_cases with h | ⟨r, h⟩ | ⟨init, media, seg, per, r, h⟩ <;> rw [h]
  · rfl
  · simp

/-- A step of the idle block takes the next transaction. -/
theorem step_idle {s t : State} (h : step s = .next t) (hp : s.phase = .idle) : t = s.nextTransaction := by
  have hf : s.fetchPoint = none := by simp only [State.fetchPoint, hp]
  rcases step_inv h with ⟨-, rfl⟩ | ⟨l, bs, e, hx, -, -⟩ | ⟨l, bs, i, n, hx, -⟩
  · simp only [State.control, hp]
  · cases hf.symm.trans hx
  · cases hf.symm.trans hx

/-! ## The dedup set and the idle state -/

/-- What keeps the dedup set in order inside a SUBMIT: the dedup context is not written, and the transient state keeps its period, or is
gone with the transaction. -/
theorem State.InvDedup.of_dedup {s t : State} (h : s.InvDedup) (hp : s.phase ≠ .idle) (hd : t.dedup = s.dedup)
    (htx : (t.phase = .idle ∧ t.tx = .empty) ∨ (t.phase ≠ .idle ∧ t.tx.perId = s.tx.perId)) : t.InvDedup where
  nodup := hd ▸ h.nodup
  noPeriod := hd ▸ h.noPeriod
  period hne := by
    rcases htx with ⟨hidle, -⟩ | ⟨-, hper⟩
    · exact absurd hidle hne
    · rw [hd, hper]
      exact h.period hp
  idle hidle := by
    rcases htx with ⟨-, htx⟩ | ⟨hne, -⟩
    · exact htx
    · exact absurd hidle hne

theorem State.InvDedup.complete {s : State} (h : s.InvDedup) (hp : s.phase ≠ .idle) : s.complete.InvDedup where
  nodup := setAdd_nodup _ _ h.nodup
  noPeriod hnone := absurd (hnone.symm.trans (h.period hp)) nofun
  period hne := absurd rfl hne
  idle _ := rfl

/-- The period on record after step 1 of 43 R230 is that of the SUBMIT. -/
theorem State.InvDedup.checkPeriod {s : State} (h : s.InvDedup) (per : Str) :
    (s.checkPeriod per).dedup.seen.Nodup ∧ (s.checkPeriod per).dedup.period = some per := by
  rcases s.checkPeriod_cases per with ⟨hper, hs⟩ | hs <;> rw [hs]
  · exact ⟨h.nodup, hper⟩
  · exact ⟨List.nodup_nil, rfl⟩

/-- A new SUBMIT, once its period is on record, has ended or runs in that period. -/
theorem State.beginSubmit_invDedup {s : State} {per : Str} (hd : s.dedup.seen.Nodup) (hper : s.dedup.period = some per)
    (init media : List Byte) (seg : Str) : (s.beginSubmit init media seg per).checkSegment.InvDedup := by
  have hnone : s.dedup.period = none → s.dedup.seen = [] := fun h => absurd (h.symm.trans hper) nofun
  rcases State.checkSegment_cases (s.beginSubmit init media seg per) with ⟨e, h⟩ | ⟨p, h⟩ <;> rw [h]
  · exact ⟨hd, hnone, fun hne => absurd rfl hne, fun _ => rfl⟩
  · exact ⟨hd, hnone, fun _ => hper, nofun⟩

theorem State.InvDedup.nextTransaction {s : State} (h : s.InvDedup) (hp : s.phase = .idle) : s.nextTransaction.InvDedup := by
  rcases s.nextTransaction_cases with hs | ⟨r, hs⟩ | ⟨init, media, seg, per, r, hs⟩ <;> rw [hs]
  · exact h
  · exact ⟨List.nodup_nil, fun _ => rfl, fun hne => absurd hp hne, fun _ => h.idle hp⟩
  · have hin : (s.setInbox r).InvDedup := ⟨h.nodup, h.noPeriod, h.period, h.idle⟩
    obtain ⟨hnodup, hper⟩ := hin.checkPeriod per
    exact State.beginSubmit_invDedup hnodup hper init media seg

/-! ## The 608 decoder -/

/-! ### Memories -/

theorem Mem608.Fits.of_rows {cfg : Params} {m m' : Mem608} (h : m.Fits cfg) (hr : m'.rows = m.rows) : m'.Fits cfg := by
  unfold Mem608.Fits
  rw [hr]
  exact h

theorem Mem608.fits_of_empty {cfg : Params} {m : Mem608} (h : m.rows = Vector.replicate 16 []) : m.Fits cfg := by
  intro n _ i
  simp [h]

theorem Mem608.fits_clear (cfg : Params) (m : Mem608) : m.clear.Fits cfg := Mem608.fits_of_empty rfl

/-- Writing a row that fits keeps every row within the capacity. -/
theorem Mem608.Fits.setRow {cfg : Params} {m : Mem608} (h : m.Fits cfg) (r : Fin 16) {row : List Cell608}
    (hrow : ∀ n, cfg.rowCapacity608 = some n → row.length ≤ n) : Mem608.Fits cfg { m with rows := m.rows.set r row } := by
  intro n hn i
  simp only [Fin.getElem_fin, Vector.getElem_set]
  split
  · exact hrow n hn
  · exact h n hn i

theorem rowHasRoom_length {cfg : Params} {row : List Cell608} (h : rowHasRoom cfg row = true) (n : Nat)
    (hn : cfg.rowCapacity608 = some n) : row.length < n := by
  simpa [rowHasRoom, hn] using h

theorem Mem608.Fits.append {cfg : Params} {m : Mem608} (h : m.Fits cfg) (g : Str) : (m.append cfg g).Fits cfg := by
  unfold Mem608.append
  split
  · next hroom =>
    refine h.setRow m.row fun n hn => ?_
    have := rowHasRoom_length hroom n hn
    rw [List.length_append, List.length_singleton]
    omega
  · exact h

theorem Mem608.Fits.removeLast {cfg : Params} {m : Mem608} (h : m.Fits cfg) : m.removeLast.Fits cfg := by
  refine h.setRow m.row fun n hn => ?_
  rw [List.length_dropLast]
  exact (Nat.sub_le _ _).trans (h n hn m.row)

/-- A row taken from a memory, or from outside it, fits. -/
theorem Mem608.Fits.rowAt {cfg : Params} {m : Mem608} (h : m.Fits cfg) (j : Int) (n : Nat) (hn : cfg.rowCapacity608 = some n) :
    (rowAt m.rows j).length ≤ n := by
  unfold Machine.rowAt
  split
  · next hj =>
    have hlt : j.toNat < 16 := by omega
    simpa [hlt] using h n hn ⟨j.toNat, hlt⟩
  · exact Nat.zero_le n

/-- Rows that are rows of a memory that fits, or blank, fit. -/
theorem Mem608.Fits.ofRows {cfg : Params} {m : Mem608} (h : m.Fits cfg) (p : Fin 16 → Prop) [DecidablePred p] (j : Fin 16 → Int) :
    Mem608.Fits cfg { m with rows := Vector.ofFn fun i => if p i then Machine.rowAt m.rows (j i) else [] } := by
  intro n hn i
  simp only [Fin.getElem_fin, Vector.getElem_ofFn]
  split
  · exact h.rowAt _ n hn
  · exact Nat.zero_le n

theorem Mem608.Fits.moveWindow {cfg : Params} {m : Mem608} (h : m.Fits cfg) (row : Fin 16) : (m.moveWindow row).Fits cfg :=
  h.ofRows _ _

theorem Mem608.Fits.rollUp {cfg : Params} {m : Mem608} (h : m.Fits cfg) : m.rollUp.Fits cfg := h.ofRows _ _

@[simp] theorem Mem608.append_scroll (cfg : Params) (m : Mem608) (g : Str) : (m.append cfg g).scroll = m.scroll := by
  unfold Mem608.append
  split <;> rfl

theorem appendBasic_keeps {cfg : Params} (b : BitVec 7) {m : Mem608} (h : m.Fits cfg) :
    (appendBasic cfg b m).Fits cfg ∧ (appendBasic cfg b m).scroll = m.scroll := by
  unfold appendBasic
  split
  · exact ⟨h.append _, Mem608.append_scroll ..⟩
  · exact ⟨h, rfl⟩

/-! ### Channels -/

/-- The remembered pair and the time of the last caption do not matter. -/
theorem Chan608.Legal.of_mems {cfg : Params} {c c' : Chan608} (h : c.Legal cfg) (hmode : c'.mode = c.mode) (hcur : c'.cur = c.cur)
    (hd : c'.disp = c.disp) (hn : c'.nond = c.nond) (ht : c'.text = c.text) : c'.Legal cfg where
  cur := by rw [hcur, hmode, h.cur]
  dispScroll := hd ▸ h.dispScroll
  nondScroll := hn ▸ h.nondScroll
  textScroll := ht ▸ h.textScroll
  rollUp hm := hd ▸ h.rollUp (hmode ▸ hm)
  dispFits := hd ▸ h.dispFits
  nondFits := hn ▸ h.nondFits
  textFits := ht ▸ h.textFits

theorem Chan608.Legal.remember {cfg : Params} {c : Chan608} (h : c.Legal cfg) (v : Option Pair) :
    Chan608.Legal cfg { c with lastCP := v } := h.of_mems rfl rfl rfl rfl rfl

theorem Chan608.Legal.setDisp {cfg : Params} {c : Chan608} (h : c.Legal cfg) {m : Mem608} (hs : m.scroll = c.disp.scroll)
    (hf : m.Fits cfg) : Chan608.Legal cfg { c with disp := m } :=
  { h with
    dispScroll := by rw [hs]; exact h.dispScroll
    rollUp := fun hm => by rw [hs]; exact h.rollUp hm
    dispFits := hf }

theorem Chan608.Legal.setNond {cfg : Params} {c : Chan608} (h : c.Legal cfg) {m : Mem608} (hs : m.scroll = c.nond.scroll)
    (hf : m.Fits cfg) : Chan608.Legal cfg { c with nond := m } :=
  { h with nondScroll := hs.trans h.nondScroll, nondFits := hf }

theorem Chan608.Legal.setText {cfg : Params} {c : Chan608} (h : c.Legal cfg) {m : Mem608} (hs : m.scroll = c.text.scroll)
    (hf : m.Fits cfg) : Chan608.Legal cfg { c with text := m } :=
  { h with textScroll := hs.trans h.textScroll, textFits := hf }

/-- An action on the current buffer that keeps its scroll size, and its rows within the capacity. -/
theorem Chan608.Legal.onCur {cfg : Params} {c : Chan608} (h : c.Legal cfg) {f : Mem608 → Mem608}
    (hf : ∀ m : Mem608, m.Fits cfg → (f m).Fits cfg ∧ (f m).scroll = m.scroll) : (c.onCur f).Legal cfg := by
  unfold Chan608.onCur
  cases c.cur
  case disp => exact h.setDisp (hf _ h.dispFits).2 (hf _ h.dispFits).1
  case nond => exact h.setNond (hf _ h.nondFits).2 (hf _ h.nondFits).1
  case text => exact h.setText (hf _ h.textFits).2 (hf _ h.textFits).1

theorem Chan608.reset_legal (cfg : Params) : Chan608.reset.Legal cfg where
  cur := rfl
  dispScroll := by decide
  nondScroll := rfl
  textScroll := rfl
  rollUp := nofun
  dispFits := Mem608.fits_of_empty rfl
  nondFits := Mem608.fits_of_empty rfl
  textFits := Mem608.fits_of_empty rfl

theorem Dec608.reset_legal (cfg : Params) : Dec608.reset.Legal cfg where
  badFrames := Nat.zero_le _
  chan k := by
    simp only [Dec608.reset, Fin.getElem_fin, Vector.getElem_replicate]
    exact Chan608.reset_legal cfg

/-! ### Codes -/

theorem pacEffect_legal {cfg : Params} {c : Chan608} (h : c.Legal cfg) (row : Fin 16) (style : Style608) :
    (pacEffect row style c).Legal cfg := by
  refine h.onCur fun m hm => ?_
  dsimp only
  split
  · exact ⟨(hm.moveWindow row).of_rows rfl, rfl⟩
  · exact ⟨hm.of_rows rfl, rfl⟩

/-- PopOn writes the non-displayed memory, which has no scroll size (44 R298). -/
theorem rclEffect_legal {cfg : Params} {c : Chan608} (h : c.Legal cfg) : (rclEffect c).Legal cfg :=
  { h with cur := rfl, nondScroll := rfl, rollUp := nofun, nondFits := h.nondFits.of_rows rfl }

/-- RollUp with 2, 3 or 4 rows (44 R303). -/
theorem ruEffect_legal {cfg : Params} {c : Chan608} (h : c.Legal cfg) (p : Params) (pts : Rat) {n : Nat} (hn : n ∈ [2, 3, 4])
    (k : BitVec 2) : (ruEffect p pts n k c).ch.Legal cfg := by
  have hscroll : n ∈ [0, 2, 3, 4] := List.mem_cons_of_mem _ hn
  have hne : n ≠ 0 := fun e => absurd (e ▸ hn) (by decide)
  unfold ruEffect
  split
  · exact { h with cur := rfl, dispScroll := hscroll, rollUp := fun _ => hne, dispFits := h.dispFits.of_rows rfl }
  · exact
      { h with
        cur := rfl, dispScroll := hscroll, rollUp := fun _ => hne, dispFits := Mem608.fits_of_empty rfl
        nondScroll := h.nondScroll, nondFits := Mem608.fits_clear cfg _ }

theorem rdcEffect_legal {cfg : Params} {c : Chan608} (h : c.Legal cfg) (pts : Rat) : (rdcEffect pts c).Legal cfg :=
  { h with cur := rfl, dispScroll := List.mem_cons_self, rollUp := nofun, dispFits := h.dispFits.of_rows rfl }

theorem rtdEffect_legal {cfg : Params} {c : Chan608} (h : c.Legal cfg) (k : BitVec 2) : (rtdEffect k c).ch.Legal cfg :=
  { h with cur := rfl, rollUp := nofun }

theorem crEffect_legal {cfg : Params} {c : Chan608} (h : c.Legal cfg) (p : Params) (pts : Rat) (k : BitVec 2) :
    (crEffect p pts k c).ch.Legal cfg := by
  unfold crEffect
  split
  · exact (h.setDisp (m := c.disp.rollUp) rfl h.dispFits.rollUp).of_mems rfl rfl rfl rfl rfl
  · exact h

/-- The exchange takes the scroll size of the displayed memory away (44 R311). -/
theorem eocEffect_legal {cfg : Params} {c : Chan608} (h : c.Legal cfg) (p : Params) (pts : Rat) (k : BitVec 2) :
    (eocEffect p pts k c).ch.Legal cfg where
  cur := rfl
  dispScroll := by
    show c.nond.scroll ∈ _
    rw [h.nondScroll]
    decide
  nondScroll := rfl
  textScroll := h.textScroll
  rollUp := nofun
  dispFits := h.nondFits
  nondFits := h.dispFits.of_rows rfl
  textFits := h.textFits

/-! ### Pairs -/

theorem State.Inv608.of_eq {s t : State} (h : s.Inv608) (hcfg : t.cfg = s.cfg) (hd : t.d608 = s.d608) : t.Inv608 := by
  unfold State.Inv608
  rw [hcfg, hd]
  exact h

/-- Acting on a channel keeps the decoder legal where the code keeps the channel legal. -/
theorem State.Inv608.onChan {s : State} (h : s.Inv608) (k : BitVec 2) {f : Chan608 → Eff608}
    (hf : ∀ c : Chan608, c.Legal s.cfg → (f c).ch.Legal s.cfg) : (s.onChan k f).Inv608 where
  badFrames := Nat.zero_le _
  chan j := by
    simp only [State.onChan_eq, Fin.getElem_fin, Vector.getElem_set]
    split
    · exact hf _ (h.chan ⟨k.toNat, k.isLt⟩)
    · exact h.chan j

theorem State.Inv608.routeControl {s : State} (h : s.Inv608) (chan : BitVec 1) : (s.routeControl chan).Inv608 :=
  ⟨h.badFrames, h.chan⟩

theorem State.Inv608.control608 {s : State} (h : s.Inv608) (chan : BitVec 1) (v : Pair) {f : BitVec 2 → Chan608 → Eff608}
    (hf : ∀ (k : BitVec 2) (c : Chan608), c.Legal s.cfg → (f k c).ch.Legal s.cfg) : (s.control608 chan v f).Inv608 := by
  rw [State.control608_eq]
  exact (h.routeControl chan).onChan _ fun c hc => hf _ _ (hc.remember _)

/-- A control pair that acts on the current buffer alone. -/
theorem State.Inv608.control608_onCur {s : State} (h : s.Inv608) (chan : BitVec 1) (v : Pair) {f : Mem608 → Mem608}
    (hf : ∀ m : Mem608, m.Fits s.cfg → (f m).Fits s.cfg ∧ (f m).scroll = m.scroll) :
    (s.control608 chan v fun _ c => .quiet (c.onCur f)).Inv608 := h.control608 chan v fun _ _ hc => hc.onCur hf

/-- The 45th bad frame in a row resets the decoder, so at most 44 are counted (44 R281). -/
theorem execBad608_inv608 {s : State} (h : s.Inv608) (c1 c2 : Byte) : ∃ t, execBad608 c1 c2 s = .next t ∧ t.Inv608 := by
  simp only [execBad608]
  split
  · exact ⟨_, rfl, Dec608.reset_legal s.cfg⟩
  · next hn =>
    have hlt : s.d608.badFrames + 1 ≤ 44 := by
      simpa [badFrameCount, badFrameLimit] using hn
    exact ⟨_, rfl, ⟨hlt, h.chan⟩⟩

/-- A 608 pair keeps the decoder legal. -/
theorem exec_pair_inv608 {i : Instr} (hi : i.stage = .dec608) {s : State} (h : s.Inv608) :
    ∃ t, exec i s = .next t ∧ t.Inv608 := by
  cases i with
  | bad608 c1 c2 => exact execBad608_inv608 h c1 c2
  | null608 => exact ⟨_, rfl, ⟨Nat.zero_le _, h.chan⟩⟩
  | dup608 => exact ⟨_, rfl, (h.routeControl _).onChan _ fun c hc => hc.remember _⟩
  | basic608 b1 b2 =>
    have htwo (m : Mem608) (hm : m.Fits s.cfg) : (appendBasic s.cfg b2 (appendBasic s.cfg b1 m)).Fits s.cfg ∧
        (appendBasic s.cfg b2 (appendBasic s.cfg b1 m)).scroll = m.scroll := by
      obtain ⟨hfit1, hscroll1⟩ := appendBasic_keeps b1 hm
      obtain ⟨hfit2, hscroll2⟩ := appendBasic_keeps b2 hfit1
      exact ⟨hfit2, hscroll2.trans hscroll1⟩
    exact ⟨_, rfl, h.onChan _ fun c hc => (hc.remember none).onCur htwo⟩
  | pac608 => exact ⟨_, rfl, h.control608 _ _ fun _ c hc => pacEffect_legal hc _ _⟩
  | midrow608 =>
    exact ⟨_, rfl, h.control608_onCur _ _ fun m hm => ⟨(hm.append _).of_rows rfl, Mem608.append_scroll ..⟩⟩
  | bg608 | bgBlack608 => exact ⟨_, rfl, h.control608_onCur _ _ fun m hm => ⟨hm.of_rows rfl, rfl⟩⟩
  | special608 => exact ⟨_, rfl, h.control608_onCur _ _ fun m hm => ⟨hm.append _, Mem608.append_scroll ..⟩⟩
  | extended608 =>
    exact ⟨_, rfl, h.control608_onCur _ _ fun m hm => ⟨hm.removeLast.append _, Mem608.append_scroll ..⟩⟩
  | bs608 => exact ⟨_, rfl, h.control608_onCur _ _ fun m hm => ⟨hm.removeLast, rfl⟩⟩
  | unrecognized608 | aof608 | aon608 | der608 | fon608 => exact ⟨_, rfl, h.control608 _ _ fun _ c hc => hc⟩
  | rcl608 => exact ⟨_, rfl, h.control608 _ _ fun _ c hc => rclEffect_legal hc⟩
  | ru2608 | ru3608 | ru4608 => exact ⟨_, rfl, h.control608 _ _ fun k c hc => ruEffect_legal hc _ _ (by decide) k⟩
  | rdc608 => exact ⟨_, rfl, h.control608 _ _ fun _ c hc => rdcEffect_legal hc _⟩
  | tr608 =>
    exact ⟨_, rfl, h.control608 _ _ fun k c hc =>
      rtdEffect_legal (hc.setText (m := c.text.clear) rfl (Mem608.fits_clear _ _)) k⟩
  | rtd608 => exact ⟨_, rfl, h.control608 _ _ fun k c hc => rtdEffect_legal hc k⟩
  | edm608 => exact ⟨_, rfl, h.control608 _ _ fun _ c hc => hc.setDisp (m := c.disp.clear) rfl (Mem608.fits_clear _ _)⟩
  | cr608 => exact ⟨_, rfl, h.control608 _ _ fun k c hc => crEffect_legal hc _ _ k⟩
  | enm608 => exact ⟨_, rfl, h.control608 _ _ fun _ c hc => hc.setNond (m := c.nond.clear) rfl (Mem608.fits_clear _ _)⟩
  | eoc608 => exact ⟨_, rfl, h.control608 _ _ fun k c hc => eocEffect_legal hc _ _ k⟩
  | _ => cases hi

/-- A step of the 608 queue keeps the decoder legal: it runs a pair, or gives way to the 708 queue. -/
theorem step_pair_inv608 {s t : State} (hstep : step s = .next t) (hp : s.phase = .dec608) (h : s.Inv608) : t.Inv608 := by
  rcases step_inv hstep with ⟨-, rfl⟩ | ⟨l, bs, e, -, -, rfl⟩ | ⟨l, bs, i, n, -, -, hi, hx⟩
  · simp only [State.control, hp]
    exact h.of_eq rfl rfl
  · simp only [State.reject, hp]
    exact h.of_eq rfl rfl
  · obtain ⟨u, hu, hinv⟩ := exec_pair_inv608 (hi.trans hp) (h.of_eq (s.advance_cfg n) (s.advance_d608 n))
    cases hu.symm.trans hx
    exact hinv

theorem State.Inv608.checkPeriod {s : State} (h : s.Inv608) (per : Str) : (s.checkPeriod per).Inv608 := by
  rcases s.checkPeriod_cases per with ⟨-, hs⟩ | hs <;> rw [hs]
  · exact h
  · exact Dec608.reset_legal s.cfg

theorem State.Inv608.checkSegment {s : State} (h : s.Inv608) : s.checkSegment.Inv608 := by
  rcases s.checkSegment_cases with ⟨e, hs⟩ | ⟨p, hs⟩ <;> rw [hs]
  · exact h.of_eq rfl rfl
  · exact h.of_eq rfl rfl

/-- A new transaction resets the 608 decoder or leaves it. -/
theorem State.Inv608.nextTransaction {s : State} (h : s.Inv608) : s.nextTransaction.Inv608 := by
  rcases s.nextTransaction_cases with hs | ⟨r, hs⟩ | ⟨init, media, seg, per, r, hs⟩ <;> rw [hs]
  · exact h
  · exact Dec608.reset_legal s.cfg
  · have hin : ((s.setInbox r).checkPeriod per).Inv608 := State.Inv608.checkPeriod (s := s.setInbox r) h per
    exact State.Inv608.checkSegment (hin.of_eq rfl rfl)

end Sys2Proof.Machine

open Sys2Proof Sys2Proof.Machine

/-- Settles O9, by the stage that the step belongs to: only a pair of the 608 queue and a new transaction touch the 608 decoder. -/
theorem legalCea608IsKept : Obligations.LegalCea608IsKept := by
  intro s t h hstep
  by_cases hidle : s.phase = .idle
  · exact step_idle hstep hidle ▸ h.nextTransaction
  · by_cases h608 : s.phase = .dec608
    · exact step_pair_inv608 hstep h608 h
    · rcases step_frame hstep hidle with hf | ⟨-, -, rfl⟩ | ⟨-, rfl⟩
      · exact h.of_eq hf.cfg (hf.d608 h608)
      · exact h.of_eq s.endPass_endsPass.cfg s.endPass_endsPass.d608
      · exact h.of_eq rfl rfl

/-- Settles O13: inside a SUBMIT only completion writes the dedup set, and the transient state goes when the block becomes idle. -/
theorem dedupAndIdleAreKept : Obligations.DedupAndIdleAreKept := by
  intro s t h hstep
  by_cases hidle : s.phase = .idle
  · exact step_idle hstep hidle ▸ h.nextTransaction hidle
  · rcases step_frame hstep hidle with hf | ⟨-, -, rfl⟩ | ⟨-, rfl⟩
    · rcases hf.submit with hk | ⟨-, hk⟩
      · exact h.of_dedup hidle hk.dedup (.inr ⟨hk.phase hidle, hk.perId⟩)
      · exact h.of_dedup hidle hk.left.dedup (.inl ⟨hk.phase, hk.tx⟩)
    · have he := s.endPass_endsPass
      exact h.of_dedup hidle he.dedup (he.tx.imp_right fun ⟨hne, _, hper⟩ => ⟨hne, hper⟩)
    · exact h.complete hidle

/-- Settles O8, from what a step leaves inside a SUBMIT (`step_frame`). -/
theorem stagesOwnTheirState : Obligations.StagesOwnTheirState := by
  intro s t hstep
  by_cases hidle : s.phase = .idle
  · rw [step_idle hstep hidle]
    simp [hidle]
  · rcases step_frame hstep hidle with hf | ⟨hp, hnil, rfl⟩ | ⟨hp, rfl⟩
    · refine ⟨hf.cfg, fun hp => ⟨hf.d608 fun e => ?_, hf.d708 fun e => ?_, hf.dedup⟩, fun hp => hf.init_kept fun e => ?_,
        fun _ => hf.init_kept_or_left, fun _ => hf.found, fun hp => hf.d708 fun e => ?_, fun hp => hf.d608 fun e => ?_⟩
      · simp [e] at hp
      · cases hs : s.phase <;> simp [hs] at hp e
      · cases hs : s.phase <;> simp [hs] at hp e
      · simp [hp] at e
      · simp [e] at hp
    · have he := s.endPass_endsPass
      exact ⟨he.cfg, fun _ => ⟨he.d608, he.d708, he.dedup⟩, fun hq => by simp [hp] at hq,
        fun hq => .inl (he.init (by simpa [hp, hnil] using hq)), fun _ => he.found, fun hq => by simp [hp] at hq,
        fun hq => by simp [hp] at hq⟩
    · exact ⟨rfl, fun hq => by simp [hp] at hq, fun _ => ⟨rfl, rfl⟩, fun hq => by simp [hp] at hq, fun _ hne => absurd rfl hne,
        fun hq => by simp [hp] at hq, fun _ => rfl⟩
end

section
/-! SUPPORT. The cursors of 10_state.md R22 (O14): the decoder takes no more bytes than it is given, so the advance stays in the range
that was fetched; a level or a walk that opens lies in the range of the box it is opened for. -/

namespace Sys2Proof

/-! ## How many bytes an instruction takes -/

theorem decodeC1_length_le {c : Byte} {ps : List Byte} {i : Instr} {n : Nat} (h : decodeC1 c ps = .ok (i, n)) :
    n ≤ ps.length + 1 := by
  unfold decodeC1 at h
  split at h
  case h_17 =>
    split_ifs at h
    · cases h; omega
    · split at h <;> cases h; simp
  all_goals cases h; simp

theorem decodeExt_length_le {bs : List Byte} {i : Instr} {n : Nat} (h : decodeExt bs = .ok (i, n)) : n ≤ bs.length := by
  simp only [decodeExt] at h
  split at h
  · split_ifs at h
    case pos => cases h; simp
    iterate 3 (split at h <;> cases h; simp)
    · cases h; simp
    iterate 2 (split at h <;> cases h; simp)
    all_goals cases h; simp
  · cases h

theorem decodeBoxHeader_length_le {bs : List Byte} {i : Instr} {n : Nat} (h : decodeBoxHeader bs = .ok (i, n)) :
    n ≤ bs.length := by
  simp only [decodeBoxHeader] at h
  split at h
  · split_ifs at h
    · cases h; simp
    · split at h <;> cases h; simp
    · cases h; simp
  all_goals cases h

theorem decodeSei_length_le {bs : List Byte} {i : Instr} {n : Nat} (h : decodeSei bs = .ok (i, n)) : n ≤ bs.length := by
  unfold decodeSei at h
  split at h
  · cases h
  · split at h
    · cases h
    · cases h
      exact Nat.sub_le _ _

theorem decodeT35_length_le {bs : List Byte} {i : Instr} {n : Nat} (h : decodeT35 bs = .ok (i, n)) : n ≤ bs.length := by
  have htake : (bs.take 9).length ≤ bs.length := List.length_take_le' ..
  simp only [decodeT35] at h
  split at h
  · split_ifs at h
    · split at h
      · cases h
      · split_ifs at h <;> cases h <;> simp
    · cases h; exact htake
  · cases h; exact htake

theorem decodeNal_length_le {c : Codec} {bs : List Byte} {i : Instr} {n : Nat} (h : decodeNal c bs = .ok (i, n)) :
    n ≤ bs.length := by
  simp only [decodeNal] at h
  split at h
  · split_ifs at h
    · cases h; simp
    · split at h <;> cases h; simp
  · cases h

theorem decodeSvc_length_le {bs : List Byte} {i : Instr} {n : Nat} (h : decodeSvc bs = .ok (i, n)) : n ≤ bs.length := by
  simp only [decodeSvc] at h
  split at h
  · split_ifs at h
    · split at h <;> cases h; simp
    all_goals cases h; simp
  · cases h

theorem decodeCode_length_le {bs : List Byte} {i : Instr} {n : Nat} (h : decodeCode bs = .ok (i, n)) : n ≤ bs.length := by
  simp only [decodeCode] at h
  split at h
  · split_ifs at h
    case pos => cases h; simp
    case pos => cases h; simp
    case pos => cases h; simp
    case pos => exact decodeC1_length_le h
    · cases h; simp
  · cases h

/-- An instruction takes no more bytes than the decoder is given, in every language. -/
theorem decode_length_le {l : Lang} {bs : List Byte} {i : Instr} {n : Nat} (h : decode l bs = .ok (i, n)) : n ≤ bs.length := by
  cases l with
  | boxHeader => exact decodeBoxHeader_length_le h
  | boxVf => simp only [decode, decodeVf] at h; split at h <;> cases h; simp
  | boxType p v1 => simp only [decode, decodeBoxType] at h; split at h <;> cases h; simp
  | nal c => exact decodeNal_length_le h
  | sei => exact decodeSei_length_le h
  | t35 => exact decodeT35_length_le h
  | triple => simp only [decode, decodeTriple] at h; split at h <;> cases h; simp
  | pair last => simp only [decode, decodePair] at h; split at h <;> cases h; simp
  | dtvcc start => simp only [decode, decodeDtvcc] at h; split at h <;> cases h; simp
  | svc => exact decodeSvc_length_le h
  | code => exact decodeCode_length_le h
  | codeExt => exact decodeExt_length_le h

/-- The init pass does not register mdat (41 R160). -/
theorem boxInstr_init_ne_mdat (v1 : Bool) (t : Fourcc) : boxInstr .init v1 t ≠ .boxMdat := by
  have htable : ∀ e ∈ Pass.init.table, e.2.2 ≠ .boxMdat := by decide
  unfold boxInstr
  split
  · nofun
  · split <;> nofun
  · next k i _ h =>
    obtain ⟨l₁, l₂, hl, -⟩ := List.lookup_eq_some_iff.mp h
    exact htable (t, k, i) (by simp [hl])

/-- The length word of a NAL instruction. -/
def Instr.nalLen : Instr → Word
  | .nalH264Sei len _ | .nalH264Other len _ | .nalH265SeiPre len _ _ | .nalH265SeiSuf len _ _ | .nalH265Other len _
  | .nalShort len => len
  | _ => 0

theorem nalInstr_nalLen (c : Codec) (len : Word) (h : Byte) : (nalInstr c len h).nalLen = len := by
  cases c <;> simp only [nalInstr] <;> split_ifs <;> rfl

/-- The length word of a NAL is its first four bytes (43 R238). -/
theorem decodeNal_nalLen {c : Codec} {bs : List Byte} {i : Instr} {n : Nat} (h : decodeNal c bs = .ok (i, n)) :
    ∃ a b d e r, bs = a :: b :: d :: e :: r ∧ i.nalLen = be32 a b d e := by
  simp only [decodeNal] at h
  split at h
  · next a b d e r =>
    refine ⟨a, b, d, e, r, rfl, ?_⟩
    split_ifs at h
    · cases h; rfl
    · split at h <;> cases h; exact nalInstr_nalLen ..
  · cases h

end Sys2Proof

namespace Sys2Proof.Machine

theorem bigValue_be32 (a b c d : Byte) : bigValue [a, b, c, d] = (be32 a b c d).toNat := by
  have hb := b.isLt
  have hc := c.isLt
  have hd := d.isLt
  simp only [be32, BitVec.toNat_append, bigValue, List.foldl]
  rw [← Nat.shiftLeft_add_eq_or_of_lt hb, ← Nat.shiftLeft_add_eq_or_of_lt hc, ← Nat.shiftLeft_add_eq_or_of_lt hd]
  simp only [Nat.shiftLeft_eq]
  omega

/-- The first bytes of a run are a shorter run. -/
theorem Memory.take_slice (m : Memory) (pos n k : Nat) (h : k ≤ n) : (m.slice pos n).take k = m.slice pos k := by
  induction n generalizing pos k with
  | zero => simp [Nat.le_zero.mp h, Memory.slice]
  | succ n ih =>
    cases k with
    | zero => simp [Memory.slice]
    | succ k =>
      unfold Memory.slice
      split
      · rw [List.take_succ_cons, ih (pos + 1) k (Nat.le_of_succ_le_succ h)]
      · simp

theorem bytesAt_length_le (m : Memory) (pos stop n : Nat) : (bytesAt m pos stop n).length ≤ stop - pos :=
  (m.slice_length_le _ _).trans (Nat.min_le_right ..)

/-- An instruction read from the range of a cursor ends in the range. -/
theorem decode_bytesAt_le {l : Lang} {m : Memory} {pos stop k n : Nat} {i : Instr} (hpos : pos ≤ stop)
    (h : decode l (bytesAt m pos stop k) = .ok (i, n)) : pos + n ≤ stop := by
  have := (decode_length_le h).trans (bytesAt_length_le ..)
  omega

theorem Feed.bytes_length_le (f : Feed) (i n : Nat) : (f.bytes i n).length ≤ f.pkt.length - i := by
  simp [Feed.bytes]

/-- A code read at an index of a packet ends in the packet. -/
theorem decode_code_le {l : Lang} (hl : l = .code ∨ l = .codeExt) {f : Feed} {j k n : Nat} {i : Instr}
    (h : decode l (f.bytes j k) = .ok (i, n)) : j + n ≤ f.pkt.length := by
  have hle := (decode_length_le h).trans (f.bytes_length_le j k)
  have hin : j < f.pkt.length := by
    by_contra hout
    have hnil : f.bytes j k = [] := by
      rw [← List.length_eq_zero_iff]
      have := f.bytes_length_le j k
      omega
    rw [hnil] at h
    rcases hl with rfl | rfl <;> cases h
  omega

/-! ## States with the same cursors -/

/-- No cursor has moved, and no reader's range has changed. -/
structure SameCursors (s t : State) : Prop where
  frames : t.tx.frames = s.tx.frames := by rfl
  mem : t.boxMem = s.boxMem := by rfl
  box : t.phase = .boxDispatch → s.phase = .boxDispatch ∧ t.tx.box = s.tx.box := by exact fun h => ⟨h, rfl⟩
  walk : t.tx.walk = s.tx.walk := by rfl
  media : t.tx.mediaSpace = s.tx.mediaSpace := by rfl
  sei : t.tx.sei = s.tx.sei := by rfl
  pkt : t.tx.feed.pkt = s.tx.feed.pkt := by rfl
  pos : t.tx.feed.pos = s.tx.feed.pos := by rfl

theorem State.InvCursors.of_same {s t : State} (h : s.InvCursors) (hs : SameCursors s t) : t.InvCursors where
  frames := by rw [hs.frames, hs.mem]; exact h.frames
  box hp := by
    obtain ⟨hps, hbox⟩ := hs.box hp
    rw [hs.frames, hbox]
    exact h.box hps
  walk := by rw [hs.walk, hs.media]; exact h.walk
  sei := by rw [hs.sei]; exact h.sei
  t35 := by rw [hs.sei]; exact h.t35
  pkt := by rw [hs.pkt, hs.pos]; exact h.pkt

theorem State.InvCursors.setPhase {s : State} (h : s.InvCursors) {p : Phase} (hp : p ≠ .boxDispatch) :
    (s.setPhase p).InvCursors := h.of_same { box := fun hb => absurd hb hp }

/-- No cursor is left when the transaction has ended. -/
theorem invCursors_of_empty {t : State} (hp : t.phase = .idle) (htx : t.tx = .empty) : t.InvCursors where
  frames := by simp [htx, Tx.empty]
  box hb := by simp [hp] at hb
  walk := by simp [htx, Tx.empty, NalWalk.empty]
  sei := by simp [htx, Tx.empty, SeiRegs.empty]
  t35 := by simp [htx, Tx.empty, SeiRegs.empty]
  pkt := by simp [htx, Tx.empty, Feed.empty]

theorem State.finish_invCursors (s : State) (a : Bool) : (s.finish a).InvCursors := invCursors_of_empty rfl rfl

theorem State.takeError_invCursors (s : State) (e : Event) (a : Bool) : (s.takeError e a).InvCursors :=
  invCursors_of_empty rfl rfl

/-! ## The cursor's advance -/

theorem State.InvCursors.advanceHeader {s : State} (h : s.InvCursors) (hp : s.phase = .boxHeader) {l : Lang} {bs : List Byte}
    {i : Instr} {n : Nat} (hf : s.fetchHeader = some (l, bs)) (hd : decode l bs = .ok (i, n)) :
    (s.setTx (s.tx.passHeader n)).InvCursors := by
  unfold State.fetchHeader at hf
  split at hf
  · cases hf
  · next f r hfr =>
    split_ifs at hf
    cases hf
    have hframes := h.frames
    rw [hfr, List.forall_mem_cons] at hframes
    obtain ⟨⟨hpos, hstop⟩, hrest⟩ := hframes
    simp only [Tx.passHeader, hfr]
    exact
      { frames := List.forall_mem_cons.mpr ⟨⟨decode_bytesAt_le hpos hd, hstop⟩, hrest⟩
        box := fun hb => absurd (hp.symm.trans hb) nofun
        walk := h.walk, sei := h.sei, t35 := h.t35, pkt := h.pkt }

theorem State.InvCursors.advanceBox {s : State} (h : s.InvCursors) (hp : s.phase = .boxDispatch) {l : Lang} {bs : List Byte}
    {i : Instr} {n : Nat} (hf : s.fetchBox = some (l, bs)) (hd : decode l bs = .ok (i, n)) :
    (s.setTx (s.tx.passBox n)).InvCursors := by
  unfold State.fetchBox at hf
  unfold Tx.passBox
  split at hf
  · next hfull =>
    cases hf
    rw [if_pos hfull]
    obtain ⟨hbase, hpos, htop⟩ := h.box hp
    exact { h with box := fun _ => ⟨hbase.trans (Nat.le_add_right ..), decode_bytesAt_le hpos hd, htop⟩ }
  · next hfull =>
    rw [if_neg hfull]
    exact h

/-- The cursor passes the instruction that it stands at and stays in its range. -/
theorem State.InvCursors.advance {s : State} (h : s.InvCursors) {l : Lang} {bs : List Byte} {i : Instr} {n : Nat}
    (hf : s.fetchPoint = some (l, bs)) (hd : decode l bs = .ok (i, n)) : (s.advance n).InvCursors := by
  unfold State.fetchPoint at hf
  unfold State.advance
  cases hp : s.phase <;> simp only [hp] at hf <;> dsimp only
  case idle => cases hf
  case boxHeader => exact h.advanceHeader hp hf hd
  case boxDispatch => exact h.advanceBox hp hf hd
  case nal => exact h
  case sei =>
    simp only [State.fetchSei] at hf
    split_ifs at hf
    cases hf
    exact { h with sei := decode_bytesAt_le h.sei hd }
  case t35 =>
    cases hf
    exact { h with t35 := decode_bytesAt_le h.t35 hd }
  case cc =>
    unfold State.fetchTriple at hf
    split_ifs at hf
    cases hf
    exact { h with t35 := decode_bytesAt_le h.t35 hd }
  case dec608 =>
    unfold Tx.pass608
    split
    · exact h
    · exact h.of_same {}
  case dec708 =>
    unfold Tx.pass708
    split
    · exact h
    · exact h.of_same {}
  case svc =>
    simp only [State.fetchSvc] at hf
    split_ifs at hf
    cases hf
    have hle := (decode_length_le hd).trans (s.tx.feed.bytes_length_le _ _)
    have hpos := h.pkt
    exact { h with pkt := show s.tx.feed.pos + n ≤ s.tx.feed.pkt.length by omega }
  case cmd =>
    have hle : s.tx.feed.ext.getD s.tx.feed.pos + n ≤ s.tx.feed.pkt.length := by
      simp only [State.fetchCode] at hf
      split at hf
      · next j hj =>
        cases hf
        rw [hj]
        exact decode_code_le (.inr rfl) hd
      · next hj =>
        split_ifs at hf
        cases hf
        rw [hj]
        exact decode_code_le (.inl rfl) hd
    exact { h with pkt := hle }

/-! ## The box walk -/

/-- The box being parsed ends in the space that is walked. -/
theorem State.InvCursors.boxStop_le {s : State} (h : s.InvCursors) (hp : s.phase = .boxDispatch) :
    s.tx.box.stop ≤ s.boxMem.size := by
  obtain ⟨-, -, f, r, hf, hstop⟩ := h.box hp
  exact hstop.trans (h.frames f (by simp [hf])).2

theorem State.InvCursors.leaveBox {s : State} (h : s.InvCursors) (hp : s.phase = .boxDispatch) : s.leaveBox.InvCursors := by
  obtain ⟨-, -, f, r, hf, hstop⟩ := h.box hp
  have hframes := h.frames
  rw [hf, List.forall_mem_cons] at hframes
  obtain ⟨⟨-, hsize⟩, hrest⟩ := hframes
  refine { h with frames := ?_, box := nofun }
  rw [State.leaveBox_tx, hf]
  exact List.forall_mem_cons.mpr ⟨⟨hstop, hsize⟩, hrest⟩

/-- A level that opens inside the box lies in the space that is walked. -/
theorem State.InvCursors.enterLevel {s : State} (h : s.InvCursors) (hp : s.phase ≠ .boxDispatch) {pos : Nat}
    (hpos : pos ≤ s.tx.box.stop) (hstop : s.tx.box.stop ≤ s.boxMem.size) (count trak encv : Option Nat) :
    (s.enterLevel pos count trak encv).InvCursors :=
  { h with
    frames := List.forall_mem_cons.mpr ⟨⟨hpos, hstop⟩, h.frames⟩
    box := fun hb => absurd hb hp }

theorem State.InvCursors.children {s : State} (h : s.InvCursors) (hp : s.phase = .boxDispatch) (trak encv : Option Nat) :
    (s.children trak encv).InvCursors :=
  (h.leaveBox hp).enterLevel nofun (h.box hp).2.1 (h.boxStop_le hp) none trak encv

theorem State.InvCursors.decodeBox {s : State} (h : s.InvCursors) (hp : s.phase = .boxDispatch) {α : Type} (p : Rd α)
    (k : α → State → State) (hk : ∀ v r, p s.boxReader = .ok (v, r) → s.leaveBox.InvCursors → (k v s.leaveBox).InvCursors) :
    (s.decodeBox p k).InvCursors := by
  rcases s.decodeBox_cases p k with ⟨e, -, hs⟩ | ⟨v, r, hr, hs⟩ <;> rw [hs]
  · exact s.takeError_invCursors _ _
  · exact hk v r hr (h.leaveBox hp)

/-- The cursor after the entry count of a stsd lies in the reader's range (41 R158). -/
theorem readEntryCount_pos_le {r r' : Reader} {n pos : Nat} (h : readEntryCount r = .ok ((n, pos), r')) : pos ≤ r.stop := by
  by_cases hend : r.pos + 4 > r.stop
  · have hfail : readEntryCount r = .error { space := r.space, pos := r.pos, n := 4, reason := .pastEnd } := by
      simp [readEntryCount, readU32, readUint, memRead, hend, bind, StateT.bind, Except.bind]
    cases hfail.symm.trans h
  · have hread : ∃ v, readEntryCount r = .ok ((v, r.pos + 4), { r with pos := r.pos + 4 }) := by
      simp [readEntryCount, readU32, readUint, memRead, hend, bind, StateT.bind, Except.bind, pure, StateT.pure, Except.pure, get,
        getThe, MonadStateOf.get, StateT.get]
    obtain ⟨v, hv⟩ := hread
    cases hv.symm.trans h
    omega

/-- The cursor after the header of a visual sample entry lies in the reader's range (41 R157). -/
theorem readEntryHeader_pos_le {r r' : Reader} {pos : Nat} (h : readEntryHeader r = .ok (pos, r')) : pos ≤ r.stop := by
  by_cases hend : r.pos + 78 > r.stop
  · have hfail : readEntryHeader r = .error { space := r.space, pos := r.pos, n := 78, reason := .pastEnd } := by
      simp [readEntryHeader, skip, hend, bind, StateT.bind, Except.bind]
    cases hfail.symm.trans h
  · have hread : readEntryHeader r = .ok (r.pos + 78, { r with pos := r.pos + 78 }) := by
      simp [readEntryHeader, skip, hend, bind, StateT.bind, Except.bind, pure, StateT.pure, Except.pure, get, getThe,
        MonadStateOf.get, StateT.get]
    cases hread.symm.trans h
    omega

theorem State.InvCursors.visualEntry {s : State} (h : s.InvCursors) (hp : s.phase = .boxDispatch) (codec : Option Codec)
    (encv : Option Nat) : (s.visualEntry codec encv).InvCursors := by
  have hin : (s.onAcc (noteEntry codec)).InvCursors := h.of_same {}
  exact hin.decodeBox hp _ _ fun pos r hr hleft =>
    hleft.enterLevel nofun (readEntryHeader_pos_le hr) (hin.boxStop_le hp) none none encv

/-- The walk of an mdat lies in MEDIA where the mdat does (43 R237). -/
theorem State.InvCursors.startWalk {s : State} (h : s.InvCursors)
    (hmdat : s.tx.mdat.start + s.tx.mdat.length ≤ s.tx.mediaSpace.size) (moof bmdt ts : Nat) (samples : List Sample) :
    (s.startWalk moof bmdt ts samples).InvCursors := by
  rcases s.startWalk_cases moof bmdt ts samples with hs | ⟨d, -, hd, -, hs⟩ <;> rw [hs]
  · exact h
  · exact { h with box := nofun, walk := ⟨Nat.add_le_add_left hd _, hmdat⟩ }

theorem State.recordTiming_sameCursors (s : State) (ts : Nat) (samples : List Sample) :
    SameCursors s (s.setTx (s.tx.recordTiming ts samples)) := by
  rcases s.tx.recordTiming_cases ts samples with ⟨h, -⟩ | ⟨_, -, -, h⟩ <;> rw [h] <;> exact {}

theorem Tx.recordTiming_mdat (t : Tx) (ts : Nat) (samples : List Sample) : (t.recordTiming ts samples).mdat = t.mdat := by
  rcases t.recordTiming_cases ts samples with ⟨h, -⟩ | ⟨_, -, -, h⟩ <;> rw [h]

theorem State.InvCursors.scanMdat {s : State} (h : s.InvCursors)
    (hmdat : s.tx.mdat.start + s.tx.mdat.length ≤ s.tx.mediaSpace.size) : s.scanMdat.InvCursors := by
  have hrec (ts : Nat) (samples : List Sample) := s.recordTiming_sameCursors ts samples
  have hrange (ts : Nat) (samples : List Sample) : (s.tx.recordTiming ts samples).mdat.start +
      (s.tx.recordTiming ts samples).mdat.length ≤ (s.setTx (s.tx.recordTiming ts samples)).tx.mediaSpace.size := by
    rw [Tx.recordTiming_mdat, (hrec ts samples).media]
    exact hmdat
  unfold State.scanMdat
  split
  · exact h
  · split
    · exact s.takeError_invCursors _ _
    · split
      · exact s.takeError_invCursors _ _
      · split
        · exact s.takeError_invCursors _ _
        · exact (h.of_same (hrec _ _)).startWalk (hrange _ _) ..

/-- BOX.mdat: its payload is the rest of the box, which lies in MEDIA (42 R193). -/
theorem execBoxMdat_invCursors {s : State} (h : s.InvCursors) (hp : s.phase = .boxDispatch) (hpass : s.tx.pass ≠ .init) :
    ∃ t, execBoxMdat s = .next t ∧ t.InvCursors := by
  obtain ⟨hbase, hpos, -⟩ := h.box hp
  have hmem : s.boxMem = s.tx.mediaSpace := by
    cases hq : s.tx.pass
    · exact absurd hq hpass
    all_goals simp only [State.boxMem, hq]
  have hstop : s.tx.box.base + (s.tx.box.stop - s.tx.box.base) ≤ s.tx.mediaSpace.size := by
    have := hmem ▸ h.boxStop_le hp
    omega
  have hset : State.InvCursors { s with
      tx := { s.tx with mdat := { start := s.tx.box.base, length := s.tx.box.stop - s.tx.box.base } } } := h.of_same {}
  exact ⟨_, rfl, (hset.leaveBox hp).scanMdat hstop⟩

@[simp] theorem Tx.passBox_pass (t : Tx) (n : Nat) : (t.passBox n).pass = t.pass := by
  unfold Tx.passBox
  split <;> rfl

/-- An mdat is met outside the init pass only. -/
theorem fetchBox_mdat {s : State} {l : Lang} {bs : List Byte} {n : Nat} (hf : s.fetchBox = some (l, bs))
    (hd : decode l bs = .ok (.boxMdat, n)) : s.tx.pass ≠ .init := by
  intro hpass
  unfold State.fetchBox at hf
  split at hf
  · cases hf
    simp only [decode, decodeVf] at hd
    split at hd <;> cases hd
  · cases hf
    simp only [decode, decodeBoxType, hpass] at hd
    split at hd
    · injection hd with hd
      exact boxInstr_init_ne_mdat _ _ (congrArg Prod.fst hd)
    · cases hd

/-- A box that is dispatched leaves the cursors in range; an mdat is met outside the init pass. -/
theorem exec_box_invCursors {i : Instr} (hi : i.stage = .boxDispatch) {s : State} (h : s.InvCursors) (hp : s.phase = .boxDispatch)
    (hmdat : i = .boxMdat → s.tx.pass ≠ .init) : ∃ t, exec i s = .next t ∧ t.InvCursors := by
  cases i with
  | boxFullVf => exact ⟨_, rfl, { h with }⟩
  | boxUnregistered => exact ⟨_, rfl, h.leaveBox hp⟩
  | boxMoov | boxMdia | boxMinf | boxStbl | boxMvex | boxSinf | boxTraf => exact ⟨_, rfl, h.children hp ..⟩
  | boxTrak => exact ⟨_, rfl, State.InvCursors.children (h.of_same (t := s.onAcc _) {}) hp ..⟩
  | boxMoof => exact ⟨_, rfl, State.InvCursors.children (h.of_same (t := s.onSlots _) {}) hp ..⟩
  | boxAvc1 | boxAvc3 | boxHvc1 | boxHev1 => exact ⟨_, rfl, h.visualEntry hp ..⟩
  | boxEncv => exact ⟨_, rfl, State.InvCursors.visualEntry (h.of_same (t := s.onAcc _) {}) hp ..⟩
  | boxStsd =>
    exact ⟨_, rfl, h.decodeBox hp _ _ fun _ _ hr hleft =>
      hleft.enterLevel nofun (readEntryCount_pos_le hr) (h.boxStop_le hp) _ _ _⟩
  | boxFrma | boxMvhd | boxTkhd | boxMdhd | boxTrex | boxTfhd | boxTfdt | boxTrun | boxEmsg | boxEmsgV1 | boxSidx | boxElst
  | boxTenc | boxPrft => exact ⟨_, rfl, h.decodeBox hp _ _ fun _ _ _ hleft => hleft.of_same {}⟩
  | boxMdat => exact execBoxMdat_invCursors h hp (hmdat rfl)
  | _ => cases hi

/-- A header closes its level or opens a box that lies between the cursor and the end of its level (41 R151, D7). -/
theorem State.InvCursors.openBox {s : State} (h : s.InvCursors) (size : Nat) (type : Fourcc) :
    (s.openBox size type).InvCursors := by
  cases hf : s.tx.frames with
  | nil =>
    have hs : s.openBox size type = s := by simp only [State.openBox, hf]
    rw [hs]
    exact h
  | cons f r =>
    have hframes := h.frames
    rw [hf, List.forall_mem_cons] at hframes
    obtain ⟨⟨hpos, hsize⟩, hrest⟩ := hframes
    rcases s.openBox_cases size type f r hf with ⟨-, hs⟩ | ⟨hle, hs⟩ <;> rw [hs]
    · exact { h with frames := List.forall_mem_cons.mpr ⟨⟨le_rfl, hsize⟩, hrest⟩, box := nofun }
    · have hstart : f.pos ≤ s.tx.box.start + size := by omega
      exact
        { h with
          frames := List.forall_mem_cons.mpr ⟨⟨hpos, hsize⟩, hrest⟩
          box := fun _ => ⟨le_rfl, le_min hstart hpos, _, r, rfl, min_le_right ..⟩ }

theorem exec_header_invCursors {i : Instr} (hi : i.stage = .boxHeader) {s : State} (h : s.InvCursors) :
    ∃ t, exec i s = .next t ∧ t.InvCursors := by
  cases i with
  | boxSizeLiteral | boxSizeRest => exact ⟨_, rfl, h.openBox ..⟩
  | boxLargesize type large =>
    show ∃ t, execBoxLargesize type large s = .next t ∧ _
    unfold execBoxLargesize
    split
    · exact ⟨_, rfl, s.takeError_invCursors _ _⟩
    · exact ⟨_, rfl, h.openBox ..⟩
  | _ => cases hi

/-! ## The elementary stream -/

/-- A NAL that is fetched lies in the range of the walk (43 R238, R241). -/
theorem fetchNal_fits {s : State} {l : Lang} {bs : List Byte} {i : Instr} {n : Nat} (hf : s.fetchNal = some (l, bs))
    (hd : decode l bs = .ok (i, n)) : s.tx.walk.pos + 4 + i.nalLen.toNat ≤ s.tx.walk.stop := by
  simp only [State.fetchNal] at hf
  split at hf
  · cases hf
  · next c _ =>
    split_ifs at hf with hend hfit
    cases hf
    obtain ⟨a, b, d, e, r, hbs, hlen⟩ := decodeNal_nalLen hd
    have hword : s.tx.mediaSpace.slice s.tx.walk.pos 4 = [a, b, d, e] := by
      unfold bytesAt at hbs
      have hfour := s.tx.mediaSpace.slice_length_le s.tx.walk.pos (min 5 (s.tx.walk.stop - s.tx.walk.pos))
      rw [hbs] at hfour
      simp only [List.length_cons] at hfour
      have hk : 4 ≤ min 5 (s.tx.walk.stop - s.tx.walk.pos) := by omega
      rw [← Memory.take_slice _ _ _ 4 hk, hbs]
      rfl
    rw [hword, bigValue_be32, ← hlen] at hfit
    omega

/-- A NAL leaves the walk at its end, and NALBUF, if it is an SEI NAL, at the start (43 R238, R245). -/
theorem exec_nal_invCursors {i : Instr} (hi : i.stage = .nal) {s : State} (h : s.InvCursors)
    (hfit : s.tx.walk.pos + 4 + i.nalLen.toNat ≤ s.tx.walk.stop) : ∃ t, exec i s = .next t ∧ t.InvCursors := by
  have hskip (len : Word) (hlen : s.tx.walk.pos + 4 + len.toNat ≤ s.tx.walk.stop) : (s.skipNal len).InvCursors :=
    { h with walk := ⟨hlen, h.walk.2⟩ }
  have hsei (c : Codec) (len : Word) (hlen : s.tx.walk.pos + 4 + len.toNat ≤ s.tx.walk.stop) : (s.seiNal c len).InvCursors :=
    { h with box := nofun, walk := ⟨hlen, h.walk.2⟩, sei := Nat.zero_le _ }
  cases i with
  | nalH264Sei | nalH265SeiPre | nalH265SeiSuf => exact ⟨_, rfl, hsei _ _ hfit⟩
  | nalH264Other | nalH265Other | nalShort => exact ⟨_, rfl, hskip _ hfit⟩
  | _ => cases hi

/-- The clamped size of a message ends in NALBUF (43 R246, D17). -/
theorem State.InvCursors.seiClamp_le {s : State} (h : s.InvCursors) (size : Nat) :
    s.tx.sei.pos + s.seiClamp size ≤ s.tx.sei.nalbuf.size := by
  have hpos := h.sei
  unfold State.seiClamp
  omega

theorem State.queue608_sameCursors (s : State) (field : BitVec 1) (d1 d2 : Byte) : SameCursors s (s.queue608 field d1 d2) := by
  rcases s.queue608_cases field d1 d2 with ⟨-, h⟩ | ⟨-, h⟩ <;> rw [h] <;> exact {}

theorem State.queue708_sameCursors (s : State) (start : Bool) (d1 d2 : Byte) : SameCursors s (s.queue708 start d1 d2) := by
  rcases s.queue708_cases start d1 d2 with ⟨-, h⟩ | ⟨-, h⟩ <;> rw [h] <;> exact {}

/-- A SEI message, a T.35 payload or a cc triple leaves its reader in range. -/
theorem exec_payload_invCursors {i : Instr} (hi : i.stage ∈ [Phase.sei, .t35, .cc]) {s : State} (h : s.InvCursors) :
    ∃ t, exec i s = .next t ∧ t.InvCursors := by
  cases i with
  | seiT35 size => exact ⟨_, rfl, { h with box := nofun, sei := h.seiClamp_le size, t35 := Nat.zero_le _ }⟩
  | seiOther _ size => exact ⟨_, rfl, { h with sei := h.seiClamp_le size }⟩
  | t35AtscCc ign7 ign5 count =>
    show ∃ t, execT35AtscCc ign7 ign5 count s = .next t ∧ _
    unfold execT35AtscCc
    split
    · exact ⟨_, rfl, s.takeError_invCursors _ _⟩
    · next hfit => exact ⟨_, rfl, { h with box := nofun, t35 := Nat.le_of_not_lt hfit }⟩
  | t35Rejected => exact ⟨_, rfl, h.setPhase nofun⟩
  | cc608F0 | cc608F1 => exact ⟨_, rfl, h.of_same (s.queue608_sameCursors ..)⟩
  | ccDtvccData | ccDtvccStart => exact ⟨_, rfl, h.of_same (s.queue708_sameCursors ..)⟩
  | ccInvalid => exact ⟨_, rfl, h⟩
  | _ => exact absurd hi (by simp [Instr.stage, langOf, Lang.stage])

/-! ## The decoders -/

/-- A 608 pair moves no cursor. -/
theorem Same608.sameCursors {s t : State} (h : Same608 s t) : SameCursors s t := by
  rw [h]
  exact {}

/-- A code moves no cursor: its bytes have been passed. -/
theorem SameButCode.sameCursors {s t : State} (h : SameButCode s t) : SameCursors s t := by
  rw [h]
  exact {}

/-- A byte of the 708 queue moves no cursor, or completes a packet, whose index starts at 0 (45 R363, R364). -/
theorem exec_packet_invCursors {i : Instr} (hi : i.stage = .dec708) {s : State} (h : s.InvCursors) :
    ∃ t, exec i s = .next t ∧ t.InvCursors := by
  cases i with
  | dtvccPacketStart seq code =>
    show ∃ t, execDtvccPacketStart seq code s = .next t ∧ _
    simp only [execDtvccPacketStart]
    split
    · exact ⟨_, rfl, h.of_same {}⟩
    · exact ⟨_, rfl, h.of_same {}⟩
  | dtvccData value =>
    show ∃ t, execDtvccData value s = .next t ∧ _
    simp only [execDtvccData]
    split
    · split
      · exact ⟨_, rfl, h.of_same {}⟩
      · exact ⟨_, rfl, { h with box := nofun, pkt := Nat.zero_le _ }⟩
    · exact ⟨_, rfl, h⟩
  | _ => cases hi

theorem State.InvCursors.skipBlock {s : State} (h : s.InvCursors) (size : Nat) : (s.skipBlock size).InvCursors :=
  { h with pkt := min_le_right .. }

theorem State.InvCursors.enterBlock {s : State} (h : s.InvCursors) (n : BitVec 6) (size : Nat) : (s.enterBlock n size).InvCursors :=
  h.of_same { box := nofun }

/-- A service block header leaves the index in the packet. -/
theorem exec_block_invCursors {i : Instr} (hi : i.stage = .svc) {s : State} (h : s.InvCursors) :
    ∃ t, exec i s = .next t ∧ t.InvCursors := by
  cases i with
  | svcHeader => exact ⟨_, rfl, h.enterBlock ..⟩
  | svcExtended size ign svc =>
    show ∃ t, execSvcExtended size ign svc s = .next t ∧ _
    unfold execSvcExtended
    split
    · exact ⟨_, rfl, h.skipBlock _⟩
    · exact ⟨_, rfl, h.enterBlock ..⟩
  | svcNullOrEmpty => exact ⟨_, rfl, h.skipBlock _⟩
  | _ => cases hi

/-! ## Every step keeps the cursors in range -/

/-- The instruction at the cursor leaves every cursor in range. -/
theorem exec_invCursors {s : State} {l : Lang} {bs : List Byte} {i : Instr} {n : Nat} (hf : s.fetchPoint = some (l, bs))
    (hd : decode l bs = .ok (i, n)) (hi : i.stage = s.phase) (h : s.InvCursors) :
    ∃ t, exec i (s.advance n) = .next t ∧ t.InvCursors := by
  have ha := h.advance hf hd
  have hpa := s.advance_phase n
  cases hp : s.phase <;> rw [hp] at hi hpa
  case idle => exact absurd hi (Lang.stage_ne_idle _)
  case boxHeader => exact exec_header_invCursors hi ha
  case boxDispatch =>
    simp only [State.fetchPoint, hp] at hf
    have hpass : (s.advance n).tx.pass = s.tx.pass := by
      simp only [State.advance, hp]
      exact s.tx.passBox_pass n
    exact exec_box_invCursors hi ha hpa fun hm => hpass ▸ fetchBox_mdat hf (hm ▸ hd)
  case nal =>
    simp only [State.fetchPoint, hp] at hf
    have hs : s.advance n = s := by simp only [State.advance, hp]
    rw [hs]
    exact exec_nal_invCursors hi h (fetchNal_fits hf hd)
  case sei | t35 | cc => exact exec_payload_invCursors (by simp [hi]) ha
  case dec608 => exact (exec_pair_same608 hi _).imp fun t => .imp_right fun hs => ha.of_same hs.sameCursors
  case dec708 => exact exec_packet_invCursors hi ha
  case svc => exact exec_block_invCursors hi ha
  case cmd => exact (exec_code_sameButCode hi _).imp fun t => .imp_right fun hs => ha.of_same hs.sameCursors

theorem State.InvCursors.startPass {s : State} (h : s.InvCursors) (p : Pass) : (s.startPass p).InvCursors := by
  refine { h with frames := ?_, box := nofun }
  cases p <;> exact List.forall_mem_singleton.mpr ⟨Nat.zero_le _, le_rfl⟩

theorem State.InvCursors.checkSegment {s : State} (h : s.InvCursors) : s.checkSegment.InvCursors := by
  rcases s.checkSegment_cases with ⟨e, hs⟩ | ⟨p, hs⟩ <;> rw [hs]
  · exact State.finish_invCursors _ _
  · exact h.startPass p

theorem State.InvCursors.endPass {s : State} (h : s.InvCursors) : s.endPass.InvCursors := by
  unfold State.endPass
  cases s.tx.pass <;> dsimp only
  case init =>
    rw [State.endInit_eq]
    rcases s.withParsedInit.checkDisabled_cases with hs | hs <;> rw [hs]
    · exact State.finish_invCursors _ _
    · exact State.InvCursors.startPass (h.of_same {}) .media
  case media => exact h.of_same { box := nofun }
  case fields => exact s.finish_invCursors _

theorem State.InvCursors.endLevel {s : State} (h : s.InvCursors) (hp : s.phase = .boxHeader) : s.endLevel.InvCursors := by
  unfold State.endLevel
  split
  · exact h.endPass
  · next f r hf =>
    have hframes := h.frames
    rw [hf, List.forall_mem_cons] at hframes
    exact { h with frames := hframes.2, box := fun hb => absurd (hp.symm.trans hb) nofun }

/-- The transient state of a new SUBMIT has no cursor but those of its passes. -/
theorem State.beginSubmit_invCursors {s : State} (hp : s.phase = .idle) (init media : List Byte) (seg per : Str) :
    (s.beginSubmit init media seg per).InvCursors where
  frames := nofun
  box hb := absurd (hp.symm.trans hb) nofun
  walk := ⟨le_rfl, Nat.zero_le _⟩
  sei := le_rfl
  t35 := le_rfl
  pkt := le_rfl

theorem State.InvCursors.nextTransaction {s : State} (h : s.InvCursors) (hp : s.phase = .idle) : s.nextTransaction.InvCursors := by
  rcases s.nextTransaction_cases with hs | ⟨r, hs⟩ | ⟨init, media, seg, per, r, hs⟩ <;> rw [hs]
  · exact h
  · exact h.of_same {}
  · have hidle : ((s.setInbox r).checkPeriod per).phase = .idle := by
      rcases State.checkPeriod_cases (s.setInbox r) per with ⟨-, hu⟩ | hu <;> rw [hu] <;> exact hp
    exact (State.beginSubmit_invCursors hidle init media seg per).checkSegment

theorem State.InvCursors.control {s : State} (h : s.InvCursors) : s.control.InvCursors := by
  unfold State.control
  cases hp : s.phase
  case idle => exact h.nextTransaction hp
  case boxHeader => exact h.endLevel hp
  case boxDispatch | t35 => exact h
  case dec708 => exact State.finish_invCursors _ _
  all_goals exact h.setPhase nofun

theorem State.InvCursors.overrun {s : State} (h : s.InvCursors) (svc : BitVec 6) (index : Nat) : (s.overrun svc index).InvCursors :=
  h.of_same { box := nofun }

theorem State.InvCursors.reject {s : State} (h : s.InvCursors) (e : DecodeError) : (s.reject e).InvCursors := by
  unfold State.reject
  cases s.phase
  case idle => exact h
  case boxHeader | boxDispatch | t35 | cc => exact s.takeError_invCursors _ _
  case nal | sei | dec608 => exact h.setPhase nofun
  case dec708 => exact State.finish_invCursors _ _
  case svc | cmd => exact h.overrun _ _

end Sys2Proof.Machine

open Sys2Proof Sys2Proof.Machine

/-- Settles O14: an advance stays in the range that was fetched (`State.InvCursors.advance`), and what opens a range opens it inside
one. -/
theorem cursorsStayInRange : Obligations.CursorsStayInRange := by
  intro s t h hstep
  rcases step_inv hstep with ⟨-, rfl⟩ | ⟨l, bs, e, -, -, rfl⟩ | ⟨l, bs, i, n, hf, hd, hi, hx⟩
  · exact h.control
  · exact h.reject e
  · obtain ⟨u, hu, hinv⟩ := exec_invCursors hf hd hi h
    cases hu.symm.trans hx
    exact hinv
end

section
/-! SUPPORT. Where a step fetches and how it goes on, stage by stage (O6), and the assembly of packets (O57). -/

namespace Sys2Proof.Machine

/-! ## The step -/

theorem step_of_none {s : State} (hf : s.fetchPoint = none) : step s = .next s.control := by
  simp only [step, hf]

theorem step_of_ok {s : State} {l : Lang} {bs : List Byte} {i : Instr} {n : Nat} (hf : s.fetchPoint = some (l, bs))
    (hd : decode l bs = .ok (i, n)) : step s = exec i (s.advance n) := by
  simp only [step, hf, hd]

theorem step_of_error {s : State} {l : Lang} {bs : List Byte} {e : DecodeError} (hf : s.fetchPoint = some (l, bs))
    (hd : decode l bs = .error e) : step s = .next (s.reject e) := by
  simp only [step, hf, hd]

/-! ## Where the next instruction stands -/

theorem step_idle_waits {s : State} (hp : s.phase = .idle) :
    s.fetchPoint = none ∧ (s.inbox = [] → step s = .next s) := by
  have hf : s.fetchPoint = none := by simp only [State.fetchPoint, hp]
  refine ⟨hf, fun hin => ?_⟩
  rw [step_of_none hf]
  simp only [State.control, hp, State.nextTransaction, hin]

/-- With no level left nothing is fetched; a pass over decoder-only boxes then ends the transaction (log entry 18). -/
theorem step_no_level {s : State} (hp : s.phase = .boxHeader) (hnil : s.tx.frames = []) :
    s.fetchPoint = none ∧
      (s.tx.pass = .fields → step s = .next { s with
        phase := .idle, tx := .empty
        outbox := s.outbox ++
          [{ cues := s.tx.cues, timing := s.tx.timing, events := s.tx.events, abnormal := false }] }) := by
  have hf : s.fetchPoint = none := by simp only [State.fetchPoint, hp, State.fetchHeader, hnil]
  refine ⟨hf, fun hpass => ?_⟩
  rw [step_of_none hf]
  simp only [State.control, hp, State.endLevel, hnil, State.endPass, hpass]
  rfl

theorem Frame.done_iff (f : Frame) : f.done = true ↔ f.count = some 0 ∨ f.count = none ∧ f.stop ≤ f.pos := by
  unfold Frame.done
  cases f.count <;> simp

/-- A level that is done ends; else a header is next (41 R155, R156, R158). -/
theorem step_level {s : State} (hp : s.phase = .boxHeader) {f : Frame} {r : List Frame} (hfr : s.tx.frames = f :: r) :
    if f.count = some 0 ∨ f.count = none ∧ f.stop ≤ f.pos then step s = .next { s with tx := { s.tx with frames := r } }
    else s.fetchPoint = some (.boxHeader, s.boxMem.slice f.pos (min 16 (f.stop - f.pos))) := by
  have hfetch : s.fetchPoint = if f.done then none else some (.boxHeader, bytesAt s.boxMem f.pos f.stop 16) := by
    simp only [State.fetchPoint, hp, State.fetchHeader, hfr]
  by_cases hdone : f.done = true
  · rw [if_pos (f.done_iff.mp hdone), step_of_none (hfetch.trans (if_pos hdone))]
    simp only [State.control, hp, State.endLevel, hfr]
  · rw [if_neg (mt f.done_iff.mpr hdone)]
    exact hfetch.trans (if_neg hdone)

/-- A FULL box gives its version and flags word first, then its type (41 R153). -/
theorem fetchPoint_box {s : State} (hp : s.phase = .boxDispatch) :
    if isFull s.tx.pass s.tx.box.type ∧ s.tx.box.version = none then
      s.fetchPoint = some (.boxVf, s.boxMem.slice s.tx.box.pos (min 4 (s.tx.box.stop - s.tx.box.pos)))
    else s.fetchPoint = some (.boxType s.tx.pass (decide (s.tx.box.version = some 1)), wordBytes s.tx.box.type) := by
  have hfetch : s.fetchPoint = s.fetchBox := by simp only [State.fetchPoint, hp]
  have hv1 : (s.tx.box.version == some 1#8) = decide (s.tx.box.version = some 1) := by
    rw [Bool.eq_iff_iff]
    simp
  rw [hfetch]
  unfold State.fetchBox
  split
  · next hfull =>
    simp only [Bool.and_eq_true, Option.isNone_iff_eq_none]
    rw [if_pos hfull]
    rfl
  · next hfull =>
    simp only [Bool.and_eq_true, Option.isNone_iff_eq_none]
    rw [if_neg hfull, hv1]

/-- The FULL boxes of the three tables (41 R150, R160, R161, 42 R204). -/
def fullBoxes : List (Pass × Fourcc) :=
  [(.init, 0x73747364), (.init, 0x6D766864), (.init, 0x746B6864), (.init, 0x6D646864), (.init, 0x74726578),
   (.media, 0x74666864), (.media, 0x74666474), (.media, 0x7472756E), (.fields, 0x656D7367), (.fields, 0x73696478),
   (.fields, 0x656C7374), (.fields, 0x74656E63), (.fields, 0x70726674)]

theorem isFull_iff (p : Pass) (type : Fourcc) : isFull p type = true ↔ (p, type) ∈ fullBoxes := by
  have htable : ∀ e ∈ p.table, e.2.1 = .full → (p, e.1) ∈ fullBoxes := by
    cases p <;> decide
  have hfull : ∀ x ∈ fullBoxes, isFull x.1 x.2 = true := by decide
  refine ⟨fun h => ?_, hfull (p, type)⟩
  unfold isFull at h
  split at h
  · next i hreg =>
    obtain ⟨l₁, l₂, hl, -⟩ := List.lookup_eq_some_iff.mp hreg
    exact htable (type, .full, i) (by simp [hl]) rfl
  all_goals cases h

/-- A NAL is next while a sample is left, its length word fits, and its bytes fit; else the walk ends (43 R238, R241). -/
theorem step_nal {s : State} (hp : s.phase = .nal) :
    let w := s.tx.walk
    (s.init.bitstream.codec = none → step s = .next { s with phase := .boxHeader }) ∧
    ∀ c, s.init.bitstream.codec = some c →
      if w.rest = [] ∨ w.stop < w.pos + 4 ∨ w.stop < w.pos + 4 + bigValue (s.tx.mediaSpace.slice w.pos 4) then
        step s = .next { s with phase := .boxHeader }
      else s.fetchPoint = some (.nal c, s.tx.mediaSpace.slice w.pos (min 5 (w.stop - w.pos))) := by
  have hfetch : s.fetchPoint = s.fetchNal := by simp only [State.fetchPoint, hp]
  have hend (hf : s.fetchNal = none) : step s = .next { s with phase := .boxHeader } := by
    rw [step_of_none (hfetch.trans hf)]
    simp only [State.control, hp]
    rfl
  refine ⟨fun hc => hend (by simp only [State.fetchNal, hc]), fun c hc => ?_⟩
  split
  · next hout =>
    refine hend ?_
    simp only [State.fetchNal, hc]
    split_ifs with h1 h2
    · rfl
    · rfl
    · simp only [Bool.or_eq_true, List.isEmpty_iff, decide_eq_true_eq, not_or] at h1
      rcases hout with h | h | h
      · exact absurd h h1.1
      · exact absurd h h1.2
      · exact absurd h h2
  · next hin =>
    rw [not_or, not_or] at hin
    obtain ⟨hrest, hword, hfit⟩ := hin
    rw [hfetch]
    simp only [State.fetchNal, hc]
    rw [if_neg (by simp [hrest, hword]), if_neg hfit]
    rfl

theorem step_sei {s : State} (hp : s.phase = .sei) :
    let r := s.tx.sei
    if r.nalbuf.size ≤ r.pos then step s = .next { s with phase := .nal }
    else s.fetchPoint = some (.sei, r.nalbuf.slice r.pos (r.nalbuf.size - r.pos)) := by
  have hfetch : s.fetchPoint = s.fetchSei := by simp only [State.fetchPoint, hp]
  dsimp only
  split
  · next hend =>
    rw [step_of_none (hfetch.trans (if_pos hend))]
    simp only [State.control, hp]
    rfl
  · next hend =>
    rw [hfetch, State.fetchSei]
    simp only [if_neg hend, bytesAt, Nat.min_self]

theorem fetchPoint_t35 {s : State} (hp : s.phase = .t35) :
    s.fetchPoint = some (.t35, s.tx.sei.t35.slice s.tx.sei.t35Pos (min 9 (s.tx.sei.t35.size - s.tx.sei.t35Pos))) := by
  simp only [State.fetchPoint, hp]
  rfl

theorem step_cc {s : State} (hp : s.phase = .cc) :
    if s.tx.sei.triples = 0 then step s = .next { s with phase := .sei }
    else s.fetchPoint =
      some (.triple, s.tx.sei.t35.slice s.tx.sei.t35Pos (min 3 (s.tx.sei.t35.size - s.tx.sei.t35Pos))) := by
  have hfetch : s.fetchPoint = s.fetchTriple := by simp only [State.fetchPoint, hp]
  split
  · next hend =>
    rw [step_of_none (hfetch.trans (if_pos hend))]
    simp only [State.control, hp]
    rfl
  · next hend => exact hfetch.trans (if_neg hend)

theorem step_dec608 {s : State} (hp : s.phase = .dec608) :
    (s.tx.q608 = [] → step s = .next { s with phase := .dec708 }) ∧
    ∀ p r, s.tx.q608 = p :: r → s.fetchPoint =
      some (.pair (s.chan608 (chanIndex p.field (p.b1.extractLsb' 3 1))).lastCP, [p.b1, p.b2]) := by
  refine ⟨fun hq => ?_, fun p r hq => ?_⟩
  · rw [step_of_none (by simp only [State.fetchPoint, hp, State.fetch608, hq])]
    simp only [State.control, hp]
    rfl
  · simp only [State.fetchPoint, hp, State.fetch608, hq]
    rfl

theorem fetchPoint_dec708 {s : State} (hp : s.phase = .dec708) :
    (s.tx.q708 = [] → s.fetchPoint = none) ∧
    ∀ b r, s.tx.q708 = b :: r → s.fetchPoint = some (.dtvcc b.start, [b.value]) :=
  ⟨fun hq => by simp only [State.fetchPoint, hp, State.fetch708, hq],
    fun b r hq => by simp only [State.fetchPoint, hp, State.fetch708, hq]⟩

theorem step_svc {s : State} (hp : s.phase = .svc) :
    if s.tx.feed.pkt.length ≤ s.tx.feed.pos then step s = .next { s with phase := .dec708 }
    else s.fetchPoint = some (.svc, ((s.tx.feed.pkt.drop s.tx.feed.pos).take 2).map Prod.fst) := by
  have hfetch : s.fetchPoint = s.fetchSvc := by simp only [State.fetchPoint, hp]
  split
  · next hend =>
    rw [step_of_none (hfetch.trans (if_pos hend))]
    simp only [State.control, hp]
    rfl
  · next hend => exact hfetch.trans (if_neg hend)

theorem step_cmd {s : State} (hp : s.phase = .cmd) :
    (∀ i, s.tx.feed.ext = some i → s.fetchPoint = some (.codeExt, ((s.tx.feed.pkt.drop i).take 7).map Prod.fst)) ∧
    (s.tx.feed.ext = none →
      if s.tx.feed.blockEnd ≤ s.tx.feed.pos then step s = .next { s with phase := .svc }
      else s.fetchPoint = some (.code, ((s.tx.feed.pkt.drop s.tx.feed.pos).take 7).map Prod.fst)) := by
  have hfetch : s.fetchPoint = s.fetchCode := by simp only [State.fetchPoint, hp]
  refine ⟨fun i hi => ?_, fun hnone => ?_⟩
  · rw [hfetch]
    simp only [State.fetchCode, hi]
    rfl
  · have hcode : s.fetchCode = if s.tx.feed.blockEnd ≤ s.tx.feed.pos then none
        else some (.code, s.tx.feed.bytes s.tx.feed.pos 7) := by
      simp only [State.fetchCode, hnone]
    split
    · next hend =>
      rw [step_of_none (hfetch.trans (hcode.trans (if_pos hend)))]
      simp only [State.control, hp]
      rfl
    · next hend => exact hfetch.trans (hcode.trans (if_neg hend))

/-! ## Bytes that do not fit -/

theorem State.takeBounds_endsInBounds (s : State) (e : ReadError) : EndsInBounds s (s.takeBounds e) e where
  left := ⟨rfl, rfl, rfl, rfl, rfl⟩
  kept := ⟨rfl, rfl, rfl⟩
  idle := ⟨rfl, rfl⟩
  result := rfl

/-- Bytes that do not fit in the box walk or in a T.35 payload are a BoundsError; a NAL or a message that does not fit ends its walk. -/
theorem reject_truncated (s : State) (k n : Nat) :
    let failed (space : Space) (pos : Nat) : Prop :=
      EndsInBounds s (s.reject (.truncated k n)) { space := space, pos := pos + k, n := n, reason := .pastEnd }
    (∀ f r, s.phase = .boxHeader → s.tx.frames = f :: r → failed (passSpace s.tx.pass) f.pos) ∧
    (s.phase = .boxDispatch → failed (passSpace s.tx.pass) s.tx.box.pos) ∧
    (s.phase = .nal → s.reject (.truncated k n) = { s with phase := .boxHeader }) ∧
    (s.phase = .sei → s.reject (.truncated k n) = { s with phase := .nal }) ∧
    (s.phase ∈ [Phase.t35, .cc] → failed .t35 s.tx.sei.t35Pos) := by
  dsimp only
  refine ⟨fun f r hp hf => ?_, fun hp => ?_, fun hp => ?_, fun hp => ?_, fun hp => ?_⟩
  · simp only [State.reject, hp, hf]
    exact s.takeBounds_endsInBounds _
  · simp only [State.reject, hp]
    exact s.takeBounds_endsInBounds _
  · simp only [State.reject, hp]
    rfl
  · simp only [State.reject, hp]
    rfl
  · simp only [List.mem_cons, List.not_mem_nil, or_false] at hp
    rcases hp with hp | hp <;> simp only [State.reject, hp]
    · exact s.takeBounds_endsInBounds _
    · exact s.takeBounds_endsInBounds _

/-! ## How the cursor passes an instruction -/

/-- The sub-reader passes a version and flags word only. -/
theorem advance_boxDispatch {s : State} (hp : s.phase = .boxDispatch) (n : Nat) : s.advance n =
    if isFull s.tx.pass s.tx.box.type ∧ s.tx.box.version = none then
      { s with tx := { s.tx with box := { s.tx.box with pos := s.tx.box.pos + n } } }
    else s := by
  have ha : s.advance n = s.setTx (s.tx.passBox n) := by simp only [State.advance, hp]
  rw [ha]
  simp only [Tx.passBox, Bool.and_eq_true, Option.isNone_iff_eq_none]
  split <;> rfl

/-- A code is passed at the pts of its first byte (45 R370, D38). -/
theorem advance_cmd {s : State} (hp : s.phase = .cmd) {b : Byte} {p : Rat}
    (hb : s.tx.feed.pkt[s.tx.feed.ext.getD s.tx.feed.pos]? = some (b, p)) (n : Nat) : s.advance n =
    { s with
      tx := { s.tx with
        feed := { s.tx.feed with pts := p, pos := s.tx.feed.ext.getD s.tx.feed.pos + n, ext := none } } } := by
  show s.advance n = s.setTx _
  simp only [State.advance, hp, Feed.passCode, Feed.ptsAt, hb]
  rfl

/-! ## Packets -/

/-- A start byte opens a packet of its length (45 R361). -/
theorem execDtvccPacketStart_eq (seq : BitVec 2) (code : BitVec 6) (s : State) :
    execDtvccPacketStart seq code s = .next { s with
      d708 := { s.d708 with builder := { isOpen := true, remaining := packetLength code, bytes := [] } }
      tx := { s.tx with
        events := s.tx.events ++
          if s.d708.builder.isOpen then
            [.dtvccPacketDropped s.d708.builder.bytes.length (s.d708.builder.bytes.length + s.d708.builder.remaining)]
          else [] } } := by
  simp only [execDtvccPacketStart]
  split
  · rfl
  · rw [List.append_nil]

/-- A data byte of an open packet is kept, and the packet completed if it is the last (45 R362, R363). -/
theorem execDtvccData_open (v : Byte) (s : State) (ho : s.d708.builder.isOpen = true) :
    execDtvccData v s =
      if 2 ≤ s.d708.builder.remaining then
        .next { s with
          d708 := { s.d708 with
            builder := { isOpen := true, remaining := s.d708.builder.remaining - 1,
                         bytes := s.d708.builder.bytes ++ [(v, s.tx.feed.pts)] } } }
      else
        .next { s with
          phase := .svc
          d708 := { s.d708 with builder := { isOpen := false, remaining := 0, bytes := [] } }
          tx := { s.tx with
            packets := s.tx.packets ++ [s.d708.builder.bytes ++ [(v, s.tx.feed.pts)]]
            feed := { s.tx.feed with
              pkt := s.d708.builder.bytes ++ [(v, s.tx.feed.pts)], pos := 0, ext := none } } } := by
  have hleft : openAfter (s.d708.builder.remaining - 1) = true ↔ 2 ≤ s.d708.builder.remaining := by
    unfold openAfter
    rw [decide_eq_true_eq]
    omega
  simp only [execDtvccData, ho, if_true, hleft]
  rfl

end Sys2Proof.Machine

open Sys2Proof Sys2Proof.Machine

/-- Settles O6, stage by stage. -/
theorem stepRunsDecodedInstruction : Obligations.StepRunsDecodedInstruction := by
  intro s
  refine ⟨step_of_none, fun _ _ _ _ => step_of_ok, fun _ _ _ => step_of_error, step_idle_waits,
    fun hp => ⟨step_no_level hp, fun _ _ => step_level hp⟩, fetchPoint_box, isFull_iff, step_nal, step_sei, fetchPoint_t35, step_cc,
    step_dec608, fetchPoint_dec708, step_svc, step_cmd, reject_truncated s, fun n =>
      ⟨fun f r hp hf => ?_, fun hp => advance_boxDispatch hp n, fun hp => ?_, fun hp => ?_, fun hp => ?_, fun hp => ?_,
        fun p r hp hq => ?_, fun b r hp hq => ?_, fun hp => ?_, fun b p hp hb => advance_cmd hp hb n⟩⟩
  · show s.advance n = s.setTx _
    simp only [State.advance, hp, Tx.passHeader, hf]
  · simp only [State.advance, hp]
  iterate 3
    show s.advance n = s.setTx _
    simp only [State.advance, hp]
  · show s.advance n = s.setTx _
    simp only [State.advance, hp, Tx.pass608, hq]
  · show s.advance n = s.setTx _
    simp only [State.advance, hp, Tx.pass708, hq]
  · show s.advance n = s.setTx _
    simp only [State.advance, hp]

/-- Settles O57, from what a start byte and a data byte do to the builder. -/
theorem packetsAreAssembled : Obligations.PacketsAreAssembled := by
  intro s b
  refine ⟨fun seq code => execDtvccPacketStart_eq seq code s, fun v => ⟨fun hc => ?_, fun ho hr => ?_, fun ho hr => ?_⟩⟩
  · show execDtvccData v s = .next s
    simp only [execDtvccData]
    exact if_neg (by rw [hc]; nofun)
  · exact (execDtvccData_open v s ho).trans (if_pos hr)
  · exact (execDtvccData_open v s ho).trans (if_neg (by rw [hr]; decide))
end

section
/-! SUPPORT. Byte spaces, the start of a SUBMIT and the box header (family of 20_memory.md): every step keeps the spaces canonical
(O11), a SUBMIT starts by what it finds (O17), and a header opens its box (O23). A step writes a byte space only with `Memory.ofBytes`, and
the parsed init segment only with the space of INIT; every operation below is followed for that. -/

namespace Sys2Proof.Machine

/-! ## Canonical spaces -/

/-- The end of a transaction leaves no byte space, and the parsed init segment as it is. -/
theorem State.InvSpaces.finish {s : State} (h : s.InvSpaces) (a : Bool) : (s.finish a).InvSpaces := by
  obtain ⟨-, -, -, -, hparsed, -⟩ := h
  exact ⟨rfl, rfl, rfl, rfl, hparsed, nofun⟩

/-- A failure puts back a canonical parsed init segment (60 R472). -/
theorem State.InvSpaces.takeError {s : State} (h : s.InvSpaces) (e : Event) (a : Bool) : (s.takeError e a).InvSpaces := by
  obtain ⟨-, -, -, -, -, hfound⟩ := h
  exact ⟨rfl, rfl, rfl, rfl, hfound, nofun⟩

/-- The cursor's advance writes no space. -/
theorem State.InvSpaces.advance {s : State} (h : s.InvSpaces) (n : Nat) : (s.advance n).InvSpaces := by
  unfold State.advance
  cases s.phase <;> dsimp only
  case boxHeader => unfold Tx.passHeader; split <;> exact h
  case boxDispatch => unfold Tx.passBox; split <;> exact h
  case dec608 => unfold Tx.pass608; split <;> exact h
  case dec708 => unfold Tx.pass708; split <;> exact h
  all_goals exact h

/-! ### The box walk -/

theorem State.InvSpaces.decodeBox {s : State} (h : s.InvSpaces) {α : Type} (p : Rd α) (k : α → State → State)
    (hk : ∀ v, (k v s.leaveBox).InvSpaces) : (s.decodeBox p k).InvSpaces := by
  rcases s.decodeBox_cases p k with ⟨e, -, hs⟩ | ⟨v, r, -, hs⟩ <;> rw [hs]
  · exact h.takeError _ _
  · exact hk v

theorem State.InvSpaces.openBox {s : State} (h : s.InvSpaces) (size : Nat) (type : Fourcc) : (s.openBox size type).InvSpaces := by
  cases hf : s.tx.frames with
  | nil =>
    have hs : s.openBox size type = s := by simp only [State.openBox, hf]
    rw [hs]
    exact h
  | cons f r => rcases s.openBox_cases size type f r hf with ⟨-, hs⟩ | ⟨-, hs⟩ <;> rw [hs] <;> exact h

theorem State.InvSpaces.scanMdat {s : State} (h : s.InvSpaces) : s.scanMdat.InvSpaces := by
  have hwalk (moof bmdt ts : Nat) (samples : List Sample) :
      ((s.setTx (s.tx.recordTiming ts samples)).startWalk moof bmdt ts samples).InvSpaces := by
    have hrec : (s.setTx (s.tx.recordTiming ts samples)).InvSpaces := by
      rcases s.tx.recordTiming_cases ts samples with ⟨ht, -⟩ | ⟨_, -, -, ht⟩ <;> rw [ht] <;> exact h
    rcases State.startWalk_cases (s.setTx (s.tx.recordTiming ts samples)) moof bmdt ts samples with hs | ⟨d, -, -, -, hs⟩ <;>
      rw [hs] <;> exact hrec
  unfold State.scanMdat
  split
  · exact h
  · split
    · exact h.takeError _ _
    · split
      · exact h.takeError _ _
      · split
        · exact h.takeError _ _
        · exact hwalk ..

/-- A box header or a box writes no space: the walk reads them only. -/
theorem exec_box_invSpaces {i : Instr} (hi : i.stage = .boxHeader ∨ i.stage = .boxDispatch) {s : State} (h : s.InvSpaces) :
    ∃ t, exec i s = .next t ∧ t.InvSpaces := by
  cases i with
  | boxSizeLiteral | boxSizeRest => exact ⟨_, rfl, h.openBox ..⟩
  | boxLargesize type large =>
    show ∃ t, execBoxLargesize type large s = .next t ∧ _
    unfold execBoxLargesize
    split
    · exact ⟨_, rfl, h.takeError _ _⟩
    · exact ⟨_, rfl, h.openBox ..⟩
  | boxFullVf | boxUnregistered | boxMoov | boxTrak | boxMdia | boxMinf | boxStbl | boxMvex | boxSinf | boxMoof | boxTraf =>
    exact ⟨_, rfl, h⟩
  | boxAvc1 | boxAvc3 | boxHvc1 | boxHev1 =>
    exact ⟨_, rfl, State.InvSpaces.decodeBox (s := s.onAcc _) h _ _ fun _ => h⟩
  | boxEncv => exact ⟨_, rfl, State.InvSpaces.decodeBox (s := (s.onAcc _).onAcc _) h _ _ fun _ => h⟩
  | boxStsd | boxFrma | boxMvhd | boxTkhd | boxMdhd | boxTrex | boxTfhd | boxTfdt | boxTrun | boxEmsg | boxEmsgV1 | boxSidx
  | boxElst | boxTenc | boxPrft => exact ⟨_, rfl, h.decodeBox _ _ fun _ => h⟩
  | boxMdat =>
    have hset : State.InvSpaces { s with
        tx := { s.tx with mdat := { start := s.tx.box.base, length := s.tx.box.stop - s.tx.box.base } } } := h
    exact ⟨_, rfl, State.InvSpaces.scanMdat (s := State.leaveBox _) hset⟩
  | _ => rcases hi with hi | hi <;> cases hi

/-! ### The elementary stream -/

/-- NALBUF is filled whole from the bytes of an SEI NAL (43 R245), and T35 from those of a message (43 R246). -/
theorem exec_stream_invSpaces {i : Instr} (hi : i.stage ∈ [Phase.nal, .sei, .t35, .cc]) {s : State} (h : s.InvSpaces) :
    ∃ t, exec i s = .next t ∧ t.InvSpaces := by
  obtain ⟨hinit, hmedia, hnalbuf, ht35, hparsed, hfound⟩ := h
  have h : s.InvSpaces := ⟨hinit, hmedia, hnalbuf, ht35, hparsed, hfound⟩
  cases i with
  | nalH264Sei | nalH265SeiPre | nalH265SeiSuf =>
    exact ⟨_, rfl, hinit, hmedia, Memory.ofBytes_wf _, ht35, hparsed, hfound⟩
  | nalH264Other | nalH265Other | nalShort | seiOther | t35Rejected | ccInvalid => exact ⟨_, rfl, h⟩
  | seiT35 => exact ⟨_, rfl, hinit, hmedia, hnalbuf, Memory.ofBytes_wf _, hparsed, hfound⟩
  | t35AtscCc ign7 ign5 count =>
    show ∃ t, execT35AtscCc ign7 ign5 count s = .next t ∧ _
    unfold execT35AtscCc
    split
    · exact ⟨_, rfl, h.takeError _ _⟩
    · exact ⟨_, rfl, h⟩
  | cc608F0 | cc608F1 =>
    refine ⟨_, rfl, ?_⟩
    rcases s.queue608_cases _ _ _ with ⟨-, hs⟩ | ⟨-, hs⟩ <;> rw [hs] <;> exact h
  | ccDtvccData | ccDtvccStart =>
    refine ⟨_, rfl, ?_⟩
    rcases s.queue708_cases _ _ _ with ⟨-, hs⟩ | ⟨-, hs⟩ <;> rw [hs] <;> exact h
  | _ => exact absurd hi (by simp [Instr.stage, langOf, Lang.stage])

/-! ### The decoders -/

/-- A byte of the 708 queue or a service block header writes no space. -/
theorem exec_packet_invSpaces {i : Instr} (hi : i.stage = .dec708 ∨ i.stage = .svc) {s : State} (h : s.InvSpaces) :
    ∃ t, exec i s = .next t ∧ t.InvSpaces := by
  cases i with
  | dtvccPacketStart seq code =>
    show ∃ t, execDtvccPacketStart seq code s = .next t ∧ _
    simp only [execDtvccPacketStart]
    split <;> exact ⟨_, rfl, h⟩
  | dtvccData value =>
    show ∃ t, execDtvccData value s = .next t ∧ _
    simp only [execDtvccData]
    split
    · split <;> exact ⟨_, rfl, h⟩
    · exact ⟨_, rfl, h⟩
  | svcExtended size ign svc =>
    show ∃ t, execSvcExtended size ign svc s = .next t ∧ _
    unfold execSvcExtended
    split <;> exact ⟨_, rfl, h⟩
  | svcHeader | svcNullOrEmpty => exact ⟨_, rfl, h⟩
  | _ => rcases hi with hi | hi <;> cases hi

/-- The instruction at the cursor keeps the spaces canonical. -/
theorem exec_invSpaces {i : Instr} {s : State} (hi : i.stage = s.phase) (h : s.InvSpaces) :
    ∃ t, exec i s = .next t ∧ t.InvSpaces := by
  cases hp : s.phase <;> rw [hp] at hi
  case idle => exact absurd hi (Lang.stage_ne_idle _)
  case boxHeader | boxDispatch => exact exec_box_invSpaces (by simp [hi]) h
  case nal | sei | t35 | cc => exact exec_stream_invSpaces (by simp [hi]) h
  case dec608 =>
    refine (exec_pair_same608 hi s).imp fun t => .imp_right fun hs => ?_
    rw [hs]
    exact h
  case dec708 | svc => exact exec_packet_invSpaces (by simp [hi]) h
  case cmd =>
    refine (exec_code_sameButCode hi s).imp fun t => .imp_right fun hs => ?_
    rw [hs]
    exact h

/-! ### Transactions -/

/-- The init pass records the space of INIT as parsed (43 R233). -/
theorem State.InvSpaces.withParsedInit {s : State} (h : s.InvSpaces) : s.withParsedInit.InvSpaces := by
  obtain ⟨hinit, hmedia, hnalbuf, ht35, -, hfound⟩ := h
  refine ⟨hinit, hmedia, hnalbuf, ht35, fun m hm => ?_, hfound⟩
  cases hm
  exact hinit

theorem State.InvSpaces.endPass {s : State} (h : s.InvSpaces) : s.endPass.InvSpaces := by
  unfold State.endPass
  cases s.tx.pass <;> dsimp only
  case init =>
    rw [State.endInit_eq]
    rcases s.withParsedInit.checkDisabled_cases with hs | hs <;> rw [hs]
    · exact State.InvSpaces.finish (s := s.withParsedInit.logEvent _) h.withParsedInit false
    · exact h.withParsedInit
  case media => exact h
  case fields => exact h.finish false

/-- The two spaces of a SUBMIT are filled whole from its bytes (20_memory.md R70). -/
theorem State.InvSpaces.beginSubmit {s : State} (h : s.InvSpaces) (init media : List Byte) (seg per : Str) :
    (s.beginSubmit init media seg per).InvSpaces := by
  obtain ⟨-, -, -, -, hparsed, -⟩ := h
  exact ⟨Memory.ofBytes_wf _, Memory.ofBytes_wf _, rfl, rfl, hparsed, hparsed⟩

theorem State.InvSpaces.checkSegment {s : State} (h : s.InvSpaces) : s.checkSegment.InvSpaces := by
  rcases s.checkSegment_cases with ⟨e, hs⟩ | ⟨p, hs⟩ <;> rw [hs]
  · exact State.InvSpaces.finish (s := s.logEvent e) h false
  · exact h

/-- CLEAR leaves no parsed init segment (70 R501). -/
theorem State.InvSpaces.clear {s : State} (h : s.InvSpaces) : s.clear.InvSpaces := by
  obtain ⟨hinit, hmedia, hnalbuf, ht35, -, hfound⟩ := h
  exact ⟨hinit, hmedia, hnalbuf, ht35, nofun, hfound⟩

theorem State.InvSpaces.checkPeriod {s : State} (h : s.InvSpaces) (per : Str) : (s.checkPeriod per).InvSpaces := by
  rcases s.checkPeriod_cases per with ⟨-, hs⟩ | hs <;> rw [hs]
  · exact h
  · exact h.clear

theorem State.InvSpaces.nextTransaction {s : State} (h : s.InvSpaces) : s.nextTransaction.InvSpaces := by
  rcases s.nextTransaction_cases with hs | ⟨r, hs⟩ | ⟨init, media, seg, per, r, hs⟩ <;> rw [hs]
  · exact h
  · exact h.clear
  · have hin : (s.setInbox r).InvSpaces := h
    exact ((hin.checkPeriod per).beginSubmit init media seg per).checkSegment

theorem State.InvSpaces.control {s : State} (h : s.InvSpaces) : s.control.InvSpaces := by
  unfold State.control
  cases s.phase <;> dsimp only
  case idle => exact h.nextTransaction
  case boxHeader =>
    unfold State.endLevel
    split
    · exact h.endPass
    · exact h
  case dec708 => exact State.InvSpaces.finish (s := s.setDedup _) h false
  all_goals exact h

theorem State.InvSpaces.reject {s : State} (h : s.InvSpaces) (e : DecodeError) : (s.reject e).InvSpaces := by
  unfold State.reject
  cases s.phase <;> dsimp only
  case boxHeader | boxDispatch | t35 | cc => exact h.takeError _ _
  case dec708 => exact State.InvSpaces.finish (s := s.setDedup _) h false
  all_goals exact h

/-! ## The start of a SUBMIT -/

/-- Taking a SUBMIT is the step of an idle block whose inbox it heads. -/
theorem step_submit {s : State} {init media : List Byte} {seg per : Str} {r : List Transaction} (hp : s.phase = .idle)
    (hin : s.inbox = .submit init media seg per :: r) :
    step s = .next (((s.setInbox r).checkPeriod per).beginSubmit init media seg per).checkSegment := by
  rw [step_of_none (step_idle_waits hp).1]
  simp only [State.control, hp, State.nextTransaction, hin, State.submit]

theorem State.checkPeriod_same {s : State} {per : Str} (h : s.dedup.period = some per) : s.checkPeriod per = s := if_pos h

theorem State.checkPeriod_new {s : State} {per : Str} (h : s.dedup.period ≠ some per) :
    s.checkPeriod per = (s.clear).setDedup { period := some per, seen := [] } := if_neg h

theorem State.checkSegment_seen {s : State} (h : s.tx.segId ∈ s.dedup.seen) :
    s.checkSegment = (s.logEvent (.duplicateSegment s.tx.segId)).finish false := if_pos h

theorem State.checkSegment_unparsed {s : State} (h : s.tx.segId ∉ s.dedup.seen) (hx : s.init.parsed ≠ some s.tx.initSpace) :
    s.checkSegment = s.startPass .init := (if_neg h).trans (if_neg hx)

theorem State.checkSegment_parsed {s : State} (h : s.tx.segId ∉ s.dedup.seen) (hx : s.init.parsed = some s.tx.initSpace) :
    s.checkSegment = s.checkDisabled := (if_neg h).trans (if_pos hx)

theorem State.checkDisabled_disabled {s : State} (h : s.disabled = true) :
    s.checkDisabled = (s.logEvent .extractionDisabled).finish false := if_pos h

theorem State.checkDisabled_enabled {s : State} (h : s.disabled = false) : s.checkDisabled = s.startPass .media :=
  if_neg (by simp [h])

/-! ## The box header -/

/-- A size of at least the header's opens the box (41 R151). -/
theorem State.openBox_opens {s : State} {size : Nat} {f : Frame} {r : List Frame} (hf : s.tx.frames = f :: r)
    (hsize : f.pos - s.tx.box.start ≤ size) (type : Fourcc) :
    s.openBox size type =
      { s with
        phase := .boxDispatch
        tx := { s.tx with
          frames := { f with count := f.count.map (· - 1) } :: r
          acc := noteFirstEntry f.count.isSome type s.tx.acc
          box := { start := s.tx.box.start, size := size, type := type, base := f.pos, pos := f.pos,
                   stop := min (s.tx.box.start + size) f.stop, version := none, flags := none } } } := by
  rcases s.openBox_cases size type f r hf with ⟨hlt, -⟩ | ⟨-, hs⟩
  · omega
  · exact hs

/-- The first box parsed in a counted level is noted, a later one is not (60 R471). -/
theorem noteFirstEntry_eq (counted : Bool) (type : Fourcc) (a : InitAcc) :
    noteFirstEntry counted type a =
      { a with firstEntry := if counted ∧ a.firstEntry = none then some type else a.firstEntry } := by
  unfold noteFirstEntry
  cases counted
  · rfl
  · cases h : a.firstEntry <;> simp

/-- The size that each of the three headers gives is the one its box is opened with (41 R152, 20_memory.md R75). -/
theorem exec_header_openBox {s : State} {f : Frame} {r : List Frame} {i : Instr} {type : Fourcc} {size : Nat}
    (hf : s.tx.frames = f :: r)
    (hi : i = .boxSizeLiteral (BitVec.ofNat 32 size) type ∧ size < 2 ^ 32 ∨
      i = .boxSizeRest type ∧ size = f.stop - s.tx.box.start ∨
      i = .boxLargesize type (BitVec.ofNat 64 size) ∧ size < 2 ^ 64 ∧ (s.cfg.safe64Guard = true → size < 2 ^ 53)) :
    exec i s = .next (s.openBox size type) := by
  rcases hi with ⟨rfl, hsize⟩ | ⟨rfl, rfl⟩ | ⟨rfl, hsize, hguard⟩
  · show execBoxSizeLiteral _ type s = _
    rw [execBoxSizeLiteral, BitVec.toNat_ofNat, Nat.mod_eq_of_lt hsize]
  · show execBoxSizeRest type s = _
    rw [execBoxSizeRest, hf]
    rfl
  · show execBoxLargesize type _ s = _
    rw [execBoxLargesize, BitVec.toNat_ofNat, Nat.mod_eq_of_lt hsize, if_neg]
    rw [Bool.and_eq_true, decide_eq_true_eq]
    rintro ⟨hg, hhigh⟩
    have := hguard hg
    omega

end Sys2Proof.Machine

open Sys2Proof Sys2Proof.Machine

/-- Settles O11: an instruction of any stage, a rejection and a control transition each keep the spaces canonical. -/
theorem canonicalSpacesAreKept : Obligations.CanonicalSpacesAreKept := by
  intro s t h hstep
  rcases step_inv hstep with ⟨-, rfl⟩ | ⟨l, bs, e, -, -, rfl⟩ | ⟨l, bs, i, n, -, -, hi, hx⟩
  · exact h.control
  · exact h.reject e
  · obtain ⟨u, hu, hinv⟩ := exec_invSpaces (hi.trans (s.advance_phase n).symm) (h.advance n)
    cases hu.symm.trans hx
    exact hinv

/-- Settles O17: the period check, then the segment, the init segment and the disable flag in the order of 43 R230. -/
theorem submitStartsByCase : Obligations.SubmitStartsByCase := by
  intro s init media seg per r hp hin
  refine ⟨_, step_submit hp hin, ?_⟩
  by_cases hper : s.dedup.period = some per
  · rw [State.checkPeriod_same (s := s.setInbox r) hper]
    by_cases hseen : seg ∈ s.dedup.seen
    · rw [State.checkSegment_seen (s := (s.setInbox r).beginSubmit init media seg per) hseen]
      exact ⟨rfl, rfl, fun h => absurd hper h, fun _ => ⟨⟨rfl, rfl, rfl, rfl, rfl⟩, fun _ => ⟨rfl, rfl⟩,
        fun h => absurd hseen h, fun h => absurd hseen h, fun h => absurd hseen h⟩⟩
    · by_cases hparsed : s.init.parsed = some (Memory.ofBytes init)
      · rw [State.checkSegment_parsed (s := (s.setInbox r).beginSubmit init media seg per) hseen hparsed]
        cases hdis : s.disabled
        · rw [State.checkDisabled_enabled (s := (s.setInbox r).beginSubmit init media seg per) hdis]
          exact ⟨rfl, rfl, fun h => absurd hper h, fun _ => ⟨⟨rfl, rfl, rfl, rfl, rfl⟩, fun h => absurd h hseen,
            fun _ h => absurd hparsed h, fun _ _ => nofun, fun _ _ _ => ⟨rfl, rfl, rfl⟩⟩⟩
        · rw [State.checkDisabled_disabled (s := (s.setInbox r).beginSubmit init media seg per) hdis]
          exact ⟨rfl, rfl, fun h => absurd hper h, fun _ => ⟨⟨rfl, rfl, rfl, rfl, rfl⟩, fun h => absurd h hseen,
            fun _ h => absurd hparsed h, fun _ _ _ => ⟨rfl, rfl⟩, fun _ _ => nofun⟩⟩
      · rw [State.checkSegment_unparsed (s := (s.setInbox r).beginSubmit init media seg per) hseen hparsed]
        exact ⟨rfl, rfl, fun h => absurd hper h, fun _ => ⟨⟨rfl, rfl, rfl, rfl, rfl⟩, fun h => absurd h hseen,
          fun _ _ => ⟨rfl, rfl, rfl⟩, fun _ h => absurd h hparsed, fun _ h => absurd h hparsed⟩⟩
  · have hfirst : (State.beginSubmit ((s.setInbox r).checkPeriod per) init media seg per).checkSegment =
        (State.beginSubmit ((s.setInbox r).checkPeriod per) init media seg per).startPass .init := by
      rw [State.checkPeriod_new (s := s.setInbox r) hper]
      exact State.checkSegment_unparsed List.not_mem_nil (Option.some_ne_none _).symm
    rw [hfirst, State.checkPeriod_new (s := s.setInbox r) hper]
    exact ⟨rfl, rfl, fun _ => ⟨rfl, rfl, rfl, rfl, rfl, rfl, rfl, rfl⟩, fun h => absurd h hper⟩

/-- Settles O23: each of the three headers resolves its size, and a size of at least the header's opens the box. -/
theorem headerOpensBox : Obligations.HeaderOpensBox := by
  intro s f r i type size hf hsize hi
  refine ⟨_, exec_header_openBox hf hi, ?_⟩
  rw [State.openBox_opens hf hsize type, noteFirstEntry_eq]
  exact ⟨⟨rfl, rfl, rfl, rfl, rfl⟩, rfl, rfl, rfl, rfl, rfl, rfl, rfl, rfl, rfl, rfl, rfl, rfl, rfl⟩
end

section
/-! SUPPORT. The byte reader (family of 20_memory.md): what each read gives (O30), and chains of reads over a run of bytes (for O32).
`Reads p bs after x` says that `p` takes exactly the bytes `bs` in front of `after` and answers `x`, wherever the run stands;
`FailsAfter p bs after` that it fails under the 64-bit guard once it has taken `bs`. Both follow the binds of a decoder. -/

namespace Sys2Proof.Machine

/-! ## The value of bytes -/

theorem bigValue_append (xs ys : List Byte) : bigValue (xs ++ ys) = bigValue xs * 256 ^ ys.length + bigValue ys := by
  have hfold (v : Nat) : ys.foldl (fun v b => 256 * v + b.toNat) v = v * 256 ^ ys.length + bigValue ys := by
    unfold bigValue
    induction ys generalizing v with
    | nil => simp
    | cons b r ih =>
      rw [List.foldl_cons, List.foldl_cons, ih, ih (256 * 0 + b.toNat), List.length_cons, pow_succ]
      ring
  rw [bigValue, List.foldl_append, hfold, ← bigValue]

theorem bigValue_cons (b : Byte) (r : List Byte) : bigValue (b :: r) = b.toNat * 256 ^ r.length + bigValue r := by
  rw [← List.singleton_append, bigValue_append]
  simp [bigValue]

theorem littleValue_cons (b : Byte) (r : List Byte) : littleValue (b :: r) = b.toNat + 256 * littleValue r := by
  rw [littleValue, List.reverse_cons, bigValue_append, ← littleValue]
  simp [bigValue]
  omega

/-- The value of bytes as the sums of 20_memory.md R73. -/
theorem valueOf_eq_sum (little : Bool) (bs : List Byte) :
    valueOf little bs = ((List.range bs.length).map fun i =>
      (bs[i]?.map (·.toNat)).getD 0 * 256 ^ (if little then i else bs.length - 1 - i)).sum := by
  induction bs with
  | nil => cases little <;> rfl
  | cons b r ih =>
    rw [List.length_cons, List.range_succ_eq_map, List.map_cons, List.sum_cons, List.map_map]
    cases little
    · simpa [valueOf, bigValue_cons, Function.comp_def, Nat.sub_sub, Nat.add_comm] using ih
    · have hmul : ∀ i x : Nat, x * 256 ^ (i + 1) = 256 * (x * 256 ^ i) := by intros; ring
      simp only [valueOf, if_true] at ih
      simp [valueOf, littleValue_cons, Function.comp_def, hmul, List.sum_map_mul_left, ih]

/-! ## Single reads -/

theorem memRead_fits {n : Nat} {r : Reader} (h : r.pos + n ≤ r.stop) :
    memRead n r = .ok (r.mem.slice r.pos n, { r with pos := r.pos + n }) := if_neg (by omega)

theorem memRead_short {n : Nat} {r : Reader} (h : r.stop < r.pos + n) :
    memRead n r = .error { space := r.space, pos := r.pos, n := n, reason := .pastEnd } := if_pos h

theorem readUint_fits {n : Nat} {r : Reader} (h : r.pos + n ≤ r.stop) :
    readUint n r = .ok (valueOf r.little (r.mem.slice r.pos n), { r with pos := r.pos + n }) := by
  simp only [readUint, memRead_fits h]

theorem readUint_short {n : Nat} {r : Reader} (h : r.stop < r.pos + n) :
    readUint n r = .error { space := r.space, pos := r.pos, n := n, reason := .pastEnd } := by
  simp only [readUint, memRead_short h]

theorem readU64_of_error {guard : Bool} {r : Reader} {e : ReadError} (h : readUint 8 r = .error e) : readU64 guard r = .error e := by
  simp only [readU64, h]

/-- A high word above 0x1FFFFF fails under the guard, with the cursor unchanged (20_memory.md R75). -/
theorem readU64_guarded {guard : Bool} {r r' : Reader} {v : Nat} (h : readUint 8 r = .ok (v, r')) (hg : guard = true)
    (hv : 0x1FFFFF < v / 2 ^ 32) :
    readU64 guard r = .error { space := r.space, pos := r.pos, n := 8, reason := .guard64 } := by
  simp only [readU64, h]
  exact if_pos (Bool.and_eq_true_iff.mpr ⟨hg, decide_eq_true hv⟩)

theorem readU64_passes {guard : Bool} {r r' : Reader} {v : Nat} (h : readUint 8 r = .ok (v, r'))
    (hv : guard = true → v / 2 ^ 32 ≤ 0x1FFFFF) : readU64 guard r = .ok (v, r') := by
  simp only [readU64, h]
  refine if_neg ?_
  rw [Bool.and_eq_true, decide_eq_true_eq]
  rintro ⟨hg, hhigh⟩
  have := hv hg
  omega

theorem readI64_of_error {guard : Bool} {r : Reader} {e : ReadError} (h : readU64 guard r = .error e) :
    readI64 guard r = .error e := by
  simp [readI64, h, bind, StateT.bind, Except.bind]

theorem readI64_of_ok {guard : Bool} {r r' : Reader} {v : Nat} (h : readU64 guard r = .ok (v, r')) :
    readI64 guard r = .ok ((BitVec.ofNat 64 v).toInt, r') := by
  simp [readI64, h, bind, StateT.bind, Except.bind, pure, StateT.pure, Except.pure, signExtend]

/-! ## Chains of reads -/

/-- A big-endian reader over the bytes `before ++ after` that has passed `before`. -/
def readerAfter (sp : Space) (before after : List Byte) : Reader :=
  { wholeReader sp (before ++ after) with pos := before.length }

/-- `p` takes the bytes `bs` in front of `after` and answers `x`. -/
def Reads {α : Type} (p : Rd α) (bs after : List Byte) (x : α) : Prop :=
  ∀ (sp : Space) (before : List Byte), p (readerAfter sp before (bs ++ after)) = .ok (x, readerAfter sp (before ++ bs) after)

/-- `p` takes the bytes `bs` in front of `after` and then fails under the 64-bit guard. -/
def FailsAfter {α : Type} (p : Rd α) (bs after : List Byte) : Prop :=
  ∀ (sp : Space) (before : List Byte), p (readerAfter sp before (bs ++ after)) =
    .error { space := sp, pos := before.length + bs.length, n := 8, reason := .guard64 }

theorem Reads.whole {α : Type} {p : Rd α} {bs : List Byte} {x : α} (h : Reads p bs [] x) (sp : Space) : ReadsWhole p sp bs x := by
  have := h sp []
  simpa [readerAfter, ReadsWhole, wholeReader] using this

theorem FailsAfter.whole {α : Type} {p : Rd α} {bs xs ys : List Byte} (h : FailsAfter p bs (xs ++ ys)) (sp : Space) :
    p (wholeReader sp (bs ++ xs ++ ys)) = .error { space := sp, pos := bs.length, n := 8, reason := .guard64 } := by
  have := h sp []
  simpa [readerAfter, wholeReader] using this

theorem Reads.pure {α : Type} (x : α) (after : List Byte) : Reads (pure x) [] after x := by
  intro sp before
  simp [Pure.pure, StateT.pure, Except.pure]

theorem Reads.bind {α β : Type} {p : Rd α} {f : α → Rd β} {xs ys after : List Byte} {x : α} {y : β}
    (hp : Reads p xs (ys ++ after) x) (hf : Reads (f x) ys after y) : Reads (p >>= f) (xs ++ ys) after y := by
  intro sp before
  have h1 := hp sp before
  have h2 := hf sp (before ++ xs)
  simp only [List.append_assoc] at h1 h2 ⊢
  simp [Bind.bind, StateT.bind, Except.bind, h1, h2]

/-- The last read of a chain. -/
theorem Reads.map {α β : Type} {p : Rd α} {bs after : List Byte} {x : α} (hp : Reads p bs after x) (g : α → β) :
    Reads (p >>= fun a => Pure.pure (g a)) bs after (g x) := by
  simpa using Reads.bind (f := fun a => Pure.pure (g a)) (ys := []) hp (Reads.pure (g x) after)

theorem FailsAfter.bind {α β : Type} {p : Rd α} {bs after : List Byte} (hp : FailsAfter p bs after) (f : α → Rd β) :
    FailsAfter (p >>= f) bs after := by
  intro sp before
  simp [Bind.bind, StateT.bind, Except.bind, hp sp before]

theorem Reads.thenFails {α β : Type} {p : Rd α} {f : α → Rd β} {xs ys after : List Byte} {x : α}
    (hp : Reads p xs (ys ++ after) x) (hf : FailsAfter (f x) ys after) : FailsAfter (p >>= f) (xs ++ ys) after := by
  intro sp before
  have h1 := hp sp before
  have h2 := hf sp (before ++ xs)
  simp only [List.append_assoc] at h1 h2 ⊢
  simp [Bind.bind, StateT.bind, Except.bind, h1, h2, Nat.add_assoc]

/-- The first read after a chain fails. -/
theorem Reads.nextFails {α β : Type} {p : Rd α} {f : α → Rd β} {bs after : List Byte} {x : α}
    (hp : Reads p bs after x) (hf : FailsAfter (f x) [] after) : FailsAfter (p >>= f) bs after := by
  simpa using Reads.thenFails (ys := []) hp hf

/-! ### Integers -/

theorem Reads.uint (bs after : List Byte) : Reads (readUint bs.length) bs after (bigValue bs) := by
  intro sp before
  rw [readUint_fits (by simp [readerAfter, wholeReader])]
  simp [readerAfter, wholeReader, Memory.slice_ofBytes, valueOf]

theorem Reads.bytes (bs after : List Byte) : Reads (readBytes bs.length) bs after bs := by
  intro sp before
  rw [readBytes, memRead_fits (by simp [readerAfter, wholeReader])]
  simp [readerAfter, wholeReader, Memory.slice_ofBytes]

theorem Reads.u8 (v : Byte) (after : List Byte) : Reads readU8 [v] after v := by
  have h := (Reads.uint [v] after).map (BitVec.ofNat 8)
  rw [show bigValue [v] = v.toNat by simp [bigValue], BitVec.ofNat_toNat, BitVec.setWidth_eq] at h
  exact h

theorem bigValue_pair (a c : Byte) : bigValue [a, c] = (a ++ c).toNat := by
  rw [BitVec.toNat_append, ← Nat.shiftLeft_add_eq_or_of_lt c.isLt, Nat.shiftLeft_eq]
  simp [bigValue]
  omega

theorem Reads.u16 (a c : Byte) (after : List Byte) : Reads readU16 [a, c] after (a ++ c) := by
  have h := (Reads.uint [a, c] after).map (BitVec.ofNat 16)
  rw [bigValue_pair, BitVec.ofNat_toNat, BitVec.setWidth_eq] at h
  exact h

theorem Reads.i16 (a c : Byte) (after : List Byte) : Reads readI16 [a, c] after (a ++ c).toInt := by
  have h := (Reads.uint [a, c] after).map (signExtend 16)
  rw [bigValue_pair, signExtend, BitVec.ofNat_toNat, BitVec.setWidth_eq] at h
  exact h

theorem bigValue_wordBytes (w : Word) : bigValue (wordBytes w) = w.toNat := by
  have hw := w.isLt
  simp only [wordBytes, bigValue, List.foldl, BitVec.extractLsb'_toNat, Nat.shiftRight_eq_div_pow]
  omega

theorem bigValue_longBytes (q : BitVec 64) : bigValue (longBytes q) = q.toNat := by
  have hq := q.isLt
  have hlen (w : Word) : (wordBytes w).length = 4 := rfl
  simp only [longBytes, bigValue_append, bigValue_wordBytes, hlen, BitVec.extractLsb'_toNat, Nat.shiftRight_eq_div_pow]
  omega

theorem Reads.u32 (w : Word) (after : List Byte) : Reads readU32 (wordBytes w) after w := by
  have h := (Reads.uint (wordBytes w) after).map (BitVec.ofNat 32)
  rw [bigValue_wordBytes, BitVec.ofNat_toNat, BitVec.setWidth_eq] at h
  exact h

theorem Reads.i32 (w : Word) (after : List Byte) : Reads readI32 (wordBytes w) after w.toInt := by
  have h := (Reads.uint (wordBytes w) after).map (signExtend 32)
  rw [bigValue_wordBytes, signExtend, BitVec.ofNat_toNat, BitVec.setWidth_eq] at h
  exact h

/-- A 64-bit field below the guard's bound, or read without the guard (20_memory.md R75). -/
theorem Reads.u64 {guard : Bool} {q : BitVec 64} (hq : guard = true → q.toNat < 2 ^ 53) (after : List Byte) :
    Reads (readU64 guard) (longBytes q) after q.toNat := by
  intro sp before
  have h := Reads.uint (longBytes q) after sp before
  rw [bigValue_longBytes] at h
  refine readU64_passes h fun hg => ?_
  have := hq hg
  omega

theorem Reads.i64 {guard : Bool} {q : BitVec 64} (hq : guard = true → q.toNat < 2 ^ 53) (after : List Byte) :
    Reads (readI64 guard) (longBytes q) after q.toInt := by
  intro sp before
  have h := readI64_of_ok (Reads.u64 hq after sp before)
  rwa [BitVec.ofNat_toNat, BitVec.setWidth_eq] at h

/-- A 64-bit field at the guard's bound or above it, under the guard (20_memory.md R75). -/
theorem failsAfter_u64 {guard : Bool} {q : BitVec 64} (hg : guard = true) (hq : 2 ^ 53 ≤ q.toNat) (rest : List Byte) :
    FailsAfter (readU64 guard) [] (longBytes q ++ rest) := by
  intro sp before
  have h := Reads.uint (longBytes q) rest sp before
  rw [bigValue_longBytes] at h
  exact readU64_guarded h hg (by omega)

theorem failsAfter_i64 {guard : Bool} {q : BitVec 64} (hg : guard = true) (hq : 2 ^ 53 ≤ q.toNat) (rest : List Byte) :
    FailsAfter (readI64 guard) [] (longBytes q ++ rest) :=
  fun sp before => readI64_of_error (failsAfter_u64 hg hq rest sp before)

theorem Reads.wide_long {guard : Bool} {q : BitVec 64} (hq : guard = true → q.toNat < 2 ^ 53) (after : List Byte) :
    Reads (readWide guard true) (longBytes q) after q.toNat := Reads.u64 hq after

theorem Reads.wide_word (guard : Bool) (w : Word) (after : List Byte) : Reads (readWide guard false) (wordBytes w) after w.toNat :=
  (Reads.u32 w after).map (·.toNat)

/-! ### Optional and repeated fields -/

/-- A field that is read exactly where its flag is set. -/
theorem Reads.flagged {α : Type} {b : BoxCtx} {flags mask : BitVec 24} (hb : b.flags = some flags) {p : Rd α} {bs after : List Byte}
    {x : α} (hp : flags &&& mask ≠ 0 → Reads p bs after x) :
    Reads (readIf (flagSet b mask) p) (if flags &&& mask = 0 then [] else bs) after (if flags &&& mask = 0 then none else some x) := by
  by_cases hm : flags &&& mask = 0
  · have hset : flagSet b mask = false := by simp [flagSet, hb, hm]
    rw [hset, if_pos hm, if_pos hm]
    exact Reads.pure none after
  · have hset : flagSet b mask = true := by simpa [flagSet, hb] using hm
    rw [hset, if_neg hm, if_neg hm]
    exact (hp hm).map some

theorem FailsAfter.flagged {α : Type} {b : BoxCtx} {flags mask : BitVec 24} (hb : b.flags = some flags) (hm : flags &&& mask ≠ 0)
    {p : Rd α} {after : List Byte} (hp : FailsAfter p [] after) : FailsAfter (readIf (flagSet b mask) p) [] after := by
  have hset : flagSet b mask = true := by simpa [flagSet, hb] using hm
  rw [hset]
  exact hp.bind _

theorem Reads.once {α : Type} {p : Rd α} {bs after : List Byte} {x : α} (hp : Reads p bs after x) :
    Reads (readTimes 1 p) bs after [x] := by
  have hnil : Reads (readTimes 0 p) [] after [] := Reads.pure [] after
  have h := Reads.bind (f := fun a => readTimes 0 p >>= fun as => Pure.pure (a :: as)) (ys := []) hp (hnil.map (x :: ·))
  rwa [List.append_nil] at h

theorem FailsAfter.once {α : Type} {p : Rd α} {bs after : List Byte} (hp : FailsAfter p bs after) :
    FailsAfter (readTimes 1 p) bs after := hp.bind _

theorem Reads.rest (bs : List Byte) : Reads readRest bs [] bs := by
  intro sp before
  have hlen : (readerAfter sp before (bs ++ [])).stop - (readerAfter sp before (bs ++ [])).pos = bs.length := by
    simp [readerAfter, wholeReader]
  have h := Reads.bytes bs [] sp before
  rw [← hlen] at h
  exact h

/-! ### Strings (20_memory.md R79, R80) -/

theorem utf8Chars_ascii {bs : List Byte} (h : ∀ c ∈ bs, c.toNat ≤ 0x7F) :
    utf8Chars bs = some (bs.map fun c => Char.ofNat c.toNat) := by
  induction bs with
  | nil => rfl
  | cons c r ih =>
    obtain ⟨hc, hr⟩ := List.forall_mem_cons.mp h
    unfold utf8Chars
    rw [if_pos (by omega), ih hr]
    rfl

theorem utf8Decode_ascii {bs : List Byte} (h : ∀ c ∈ bs, c.toNat ≤ 0x7F) :
    utf8Decode bs = bs.map fun c => Char.ofNat c.toNat := by
  have hno : (bs.map fun c => Char.ofNat c.toNat).contains '\uFFFD' = false := by
    rw [List.contains_eq_mem, decide_eq_false_iff_not, List.mem_map]
    rintro ⟨c, hc, he⟩
    have hle := h c hc
    have hval : (Char.ofNat c.toNat).toNat = c.toNat := by
      rw [Char.toNat_ofNat, if_pos (.inl (by omega))]
    rw [he] at hval
    rw [← hval] at hle
    exact absurd hle (by decide)
  simp only [utf8Decode, utf8Chars_ascii h, hno]
  rfl

/-- A string of ASCII characters other than NUL, and the NUL that ends it. -/
theorem Reads.ascii {bs : List Byte} (h : ∀ c ∈ bs, 1 ≤ c.toNat ∧ c.toNat ≤ 0x7F) (after : List Byte) :
    Reads readTerminatedString (bs ++ [0]) after (bs.map fun c => Char.ofNat c.toNat) := by
  intro sp before
  have hleft : (readerAfter sp before (bs ++ [0] ++ after)).left = bs ++ 0 :: after := by
    simp [Reader.left, readerAfter, wholeReader, Memory.slice_ofBytes]
  have hne : ∀ c ∈ bs, (c != 0#8) = true := by
    intro c hc
    have := (h c hc).1
    rw [bne_iff_ne]
    rintro rfl
    exact absurd this (by decide)
  have htake : (bs ++ 0 :: after).takeWhile (· != 0#8) = bs := by
    rw [List.takeWhile_append_of_pos hne, List.takeWhile_cons_of_neg (by decide), List.append_nil]
  simp only [readTerminatedString, hleft, htake, utf8Decode_ascii fun c hc => (h c hc).2]
  simp [readerAfter, wholeReader, Nat.add_assoc]

end Sys2Proof.Machine

open Sys2Proof Sys2Proof.Machine

/-- Settles O30, from what each read does where it fits and where it does not. -/
theorem readsAreBoundedAndOrdered : Obligations.ReadsAreBoundedAndOrdered := by
  refine ⟨?_, fun _ => rfl⟩
  intro bs sp pos stop n little hstop r byte value
  have hvalue (k : Nat) (hk : pos + k ≤ stop) : valueOf r.little (r.mem.slice r.pos k) = value k := by
    have hlen : ((bs.drop pos).take k).length = k := by
      rw [List.length_take, List.length_drop]
      omega
    show valueOf little ((Memory.ofBytes bs).slice pos k) = value k
    rw [Memory.slice_ofBytes, valueOf_eq_sum, hlen]
    refine congrArg List.sum (List.map_congr_left fun i hi => ?_)
    rw [List.getElem?_take_of_lt (List.mem_range.mp hi), List.getElem?_drop]
  have hfits (k : Nat) (hk : pos + k ≤ stop) : readUint k r = .ok (value k, { r with pos := pos + k }) :=
    hvalue k hk ▸ readUint_fits hk
  refine ⟨fun h => ⟨?_, hfits n h⟩, fun h => ⟨memRead_short h, readUint_short h⟩, fun guard =>
    ⟨fun h => ?_, fun h hg hv => ?_, fun h hv => ?_⟩⟩
  · rw [memRead_fits h]
    show Except.ok ((Memory.ofBytes bs).slice pos n, _) = _
    rw [Memory.slice_ofBytes]
  · have hshort := readU64_of_error (guard := guard) (readUint_short (r := r) h)
    exact ⟨hshort, readI64_of_error hshort⟩
  · have hguard := readU64_guarded (hfits 8 h) hg hv
    exact ⟨hguard, readI64_of_error hguard⟩
  · have hok := readU64_passes (hfits 8 h) hv
    exact ⟨hok, readI64_of_ok hok⟩
end

section
/-! SUPPORT. The field decoders of 42_box_fields.md, one lemma for each layout: the bytes of the fields in order, and the struct
they give (O32). A box in the version-1 layout has `isV1`, every other version the version-0 layout (42 R180). -/

namespace Sys2Proof.Machine

theorem isV1_iff (b : BoxCtx) : isV1 b = true ↔ b.version = some 1 := by
  rw [isV1, beq_iff_eq]
  rfl

theorem isV1_eq_false_iff (b : BoxCtx) : isV1 b = false ↔ b.version ≠ some 1 := by
  rw [ne_eq, ← isV1_iff, Bool.not_eq_true]

/-! ## Boxes of the init and media passes -/

theorem readTrex_reads (a w x y z : Word) (after : List Byte) :
    Reads readTrex (wordBytes a ++ wordBytes w ++ wordBytes x ++ wordBytes y ++ wordBytes z) after (a, { dur := x, size := y }) := by
  simp only [List.append_assoc]
  exact (Reads.u32 a _).bind <| (Reads.u32 w _).bind <| (Reads.u32 x _).bind <| (Reads.u32 y _).bind <| (Reads.u32 z _).map _

theorem readTfhd_reads {guard : Bool} {b : BoxCtx} {flags : BitVec 24} (hb : b.flags = some flags) (a w x y z : Word) {q : BitVec 64}
    (hq : flags &&& 0x01 ≠ 0 → guard = true → q.toNat < 2 ^ 53) (after : List Byte) :
    Reads (readTfhd guard b)
      (wordBytes a ++ (if flags &&& 0x01 = 0 then [] else longBytes q) ++ (if flags &&& 0x02 = 0 then [] else wordBytes w) ++
        (if flags &&& 0x08 = 0 then [] else wordBytes x) ++ (if flags &&& 0x10 = 0 then [] else wordBytes y) ++
        (if flags &&& 0x20 = 0 then [] else wordBytes z)) after
      { trackId := a, baseDataOffset := if flags &&& 0x01 = 0 then none else some q.toNat
        sampleDescriptionIndex := if flags &&& 0x02 = 0 then none else some w
        defaultSampleDuration := if flags &&& 0x08 = 0 then none else some x
        defaultSampleSize := if flags &&& 0x10 = 0 then none else some y
        defaultSampleFlags := if flags &&& 0x20 = 0 then none else some z } := by
  simp only [List.append_assoc]
  exact (Reads.u32 a _).bind <| (Reads.flagged hb fun hm => Reads.u64 (hq hm) _).bind <|
    (Reads.flagged hb fun _ => Reads.u32 w _).bind <| (Reads.flagged hb fun _ => Reads.u32 x _).bind <|
    (Reads.flagged hb fun _ => Reads.u32 y _).bind <| (Reads.flagged hb fun _ => Reads.u32 z _).map _

theorem readTfdt_reads_word (guard : Bool) {b : BoxCtx} (hb : isV1 b = false) (a : Word) (after : List Byte) :
    Reads (readTfdt guard b) (wordBytes a) after a.toNat := by
  rw [readTfdt, hb]
  exact (Reads.u32 a _).map _

theorem readTfdt_long {guard : Bool} {b : BoxCtx} (hb : isV1 b = true) : readTfdt guard b = readU64 guard := by
  rw [readTfdt, hb]
  rfl

/-! ## Decoder-only boxes -/

/-- A prft, whose time stands in either layout (42 R203). -/
theorem readPrft_reads {guard : Bool} {b : BoxCtx} (a w x : Word) {bs : List Byte} {t : Nat} {after : List Byte}
    (ht : Reads (readWide guard (isV1 b)) bs after t) :
    Reads (readPrft guard b) (wordBytes a ++ wordBytes w ++ wordBytes x ++ bs) after
      { referenceTrackId := a, ntpSeconds := w, ntpFraction := x, mediaTime := t } := by
  simp only [List.append_assoc]
  exact (Reads.u32 a _).bind <| (Reads.u32 w _).bind <| (Reads.u32 x _).bind <| ht.map _

theorem word_high_bytes (y : Word) : y.extractLsb' 24 8 ++ y.extractLsb' 16 8 = y.extractLsb' 16 16 :=
  BitVec.extractLsb'_append_extractLsb'_eq_extractLsb' rfl

theorem word_low_bytes (y : Word) : y.extractLsb' 8 8 ++ y.extractLsb' 0 8 = y.extractLsb' 0 16 :=
  BitVec.extractLsb'_append_extractLsb'_eq_extractLsb' rfl

/-- An entry of an elst: its duration and time, in either layout, then its rate, two 16-bit numbers (42 R201). -/
theorem readElstEntry_reads {guard : Bool} {b : BoxCtx} {ds ts : List Byte} {d : Nat} {t : Int} (y : Word) {after : List Byte}
    (hd : Reads (readWide guard (isV1 b)) ds (ts ++ (wordBytes y ++ after)) d)
    (ht : Reads (if isV1 b then readI64 guard else readI32) ts (wordBytes y ++ after) t) :
    Reads (readElstEntry guard b) (ds ++ (ts ++ wordBytes y)) after
      { segmentDuration := d, mediaTime := t, mediaRateInteger := (y.extractLsb' 16 16).toInt
        mediaRateFraction := (y.extractLsb' 0 16).toInt } := by
  have hhi := word_high_bytes y ▸ Reads.i16 (y.extractLsb' 24 8) (y.extractLsb' 16 8)
  have hlo := word_low_bytes y ▸ Reads.i16 (y.extractLsb' 8 8) (y.extractLsb' 0 8)
  have hrate : Reads (readI16 >>= fun rate => readI16 >>= fun frac => Pure.pure (ElstEntry.mk d t rate frac)) (wordBytes y)
      after _ := (hhi _).bind <| (hlo _).map _
  refine Reads.bind (List.append_assoc ts _ _ ▸ hd) ?_
  cases hv : isV1 b <;> simp only [hv, if_true, Bool.false_eq_true, if_false] at ht ⊢ <;> exact ht.bind hrate

theorem readElst_reads {guard : Bool} {b : BoxCtx} {bs after : List Byte} {e : ElstEntry}
    (he : Reads (readElstEntry guard b) bs after e) :
    Reads (readElst guard b) (wordBytes 1 ++ bs) after [e] := (Reads.u32 1 _).bind he.once

/-- One reference of a sidx (42 R200). -/
def sidxRef (z v w : Word) : SidxRef :=
  { referenceType := z.extractLsb' 31 1, referencedSize := z.extractLsb' 0 31, subsegmentDuration := v
    startsWithSap := w.extractLsb' 31 1, sapType := w.extractLsb' 28 3, sapDeltaTime := w.extractLsb' 0 28 }

theorem readSidxRef_reads (z v w : Word) (after : List Byte) :
    Reads readSidxRef (wordBytes z ++ (wordBytes v ++ wordBytes w)) after (sidxRef z v w) :=
  (Reads.u32 z _).bind <| (Reads.u32 v _).bind <| (Reads.u32 w _).map _

/-- A sidx with one reference: the two times, in either layout, then a reserved word whose low half is the count. -/
theorem readSidx_reads {guard : Bool} {b : BoxCtx} (a w z v u : Word) {es os : List Byte} {e o : Nat}
    (he : ∀ after, Reads (readWide guard (isV1 b)) es after e) (ho : ∀ after, Reads (readWide guard (isV1 b)) os after o)
    (after : List Byte) :
    Reads (readSidx guard b)
      (wordBytes a ++ wordBytes w ++ es ++ os ++ wordBytes 1 ++ wordBytes z ++ wordBytes v ++ wordBytes u) after
      { referenceId := a, timescale := w, earliestPresentationTime := e, firstOffset := o, references := [sidxRef z v u] } := by
  have hcount : wordBytes 1 = [0, 0] ++ [0, 1] := by decide
  simp only [hcount, List.append_assoc]
  exact (Reads.u32 a _).bind <| (Reads.u32 w _).bind <| (he _).bind <| (ho _).bind <| (Reads.u16 0 0 _).bind <|
    (Reads.u16 0 1 _).bind <| (readSidxRef_reads z v u _).once.map _

/-- The constant IV of a tenc: its length and its bytes (42 R202). -/
theorem readConstantIv_reads {iv : List Byte} (h : iv.length < 256) (after : List Byte) :
    Reads readConstantIv (BitVec.ofNat 8 iv.length :: iv) after iv := by
  have hlen : (BitVec.ofNat 8 iv.length).toNat = iv.length := by
    rw [BitVec.toNat_ofNat, Nat.mod_eq_of_lt h]
  have hbytes := Reads.bytes iv after
  rw [← hlen] at hbytes
  exact (Reads.u8 (BitVec.ofNat 8 iv.length) _).bind hbytes

/-- A constant IV stands in a tenc that is protected and has no IV size for its samples (42 R202). -/
theorem readTencIv_reads {prot ivSize : Byte} {iv : List Byte} (h : iv.length < 256) (after : List Byte) :
    Reads (readIf (prot == 1#8 && ivSize == 0#8) readConstantIv)
      (if prot = 1 ∧ ivSize = 0 then BitVec.ofNat 8 iv.length :: iv else []) after
      (if prot = 1 ∧ ivSize = 0 then some iv else none) := by
  by_cases hc : prot = 1 ∧ ivSize = 0
  · have hb : (prot == 1#8 && ivSize == 0#8) = true := by simpa using hc
    rw [hb, if_pos hc, if_pos hc]
    exact (readConstantIv_reads h after).map some
  · have hb : (prot == 1#8 && ivSize == 0#8) = false := by simpa using hc
    rw [hb, if_neg hc, if_neg hc]
    exact Reads.pure none after

theorem byte_nibbles (c : Byte) :
    c.extractLsb' 4 4 = BitVec.ofNat 4 (c.toNat / 16) ∧ c.extractLsb' 0 4 = BitVec.ofNat 4 (c.toNat % 16) := by
  constructor
  · rw [BitVec.extractLsb', Nat.shiftRight_eq_div_pow]
  · apply BitVec.eq_of_toNat_eq
    simp

theorem readTenc_reads {b : BoxCtx} {ver : Byte} (hb : b.version = some ver) (r0 c prot ivSize : Byte) {kid iv : List Byte}
    (hkid : kid.length = 16) (hiv : iv.length < 256) (after : List Byte) :
    Reads (readTenc b)
      ([r0, c, prot, ivSize] ++ kid ++ if prot = 1 ∧ ivSize = 0 then BitVec.ofNat 8 iv.length :: iv else []) after
      { cryptByteBlock := if ver = 0 then none else some (BitVec.ofNat 4 (c.toNat / 16))
        skipByteBlock := if ver = 0 then none else some (BitVec.ofNat 4 (c.toNat % 16))
        isProtected := prot, perSampleIvSize := ivSize, kid := kid
        constantIv := if prot = 1 ∧ ivSize = 0 then some iv else none } := by
  obtain ⟨hcrypt, hskip⟩ := byte_nibbles c
  have hv0 : isV0 b = decide (ver = 0) := by
    rw [isV0, hb]
    rfl
  have hbytes := hkid ▸ Reads.bytes kid
  have hcounts (o : Option (BitVec 4)) : (if isV0 b then none else o) = if ver = 0 then none else o := by
    simp only [hv0, decide_eq_true_eq]
  rw [← hcrypt, ← hskip, ← hcounts, ← hcounts, List.append_assoc]
  exact (Reads.u8 r0 _).bind <| (Reads.u8 c _).bind <| (Reads.u8 prot _).bind <| (Reads.u8 ivSize _).bind <| (hbytes _).bind <|
    (readTencIv_reads hiv _).map _

theorem readEmsgV0_reads {scheme value : List Byte} (hs : ∀ c ∈ scheme, 1 ≤ c.toNat ∧ c.toNat ≤ 0x7F)
    (hv : ∀ c ∈ value, 1 ≤ c.toNat ∧ c.toNat ≤ 0x7F) (a w x y : Word) (rest : List Byte) :
    Reads readEmsgV0
      (scheme ++ [0] ++ value ++ [0] ++ wordBytes a ++ wordBytes w ++ wordBytes x ++ wordBytes y ++ rest) []
      { schemeIdUri := scheme.map fun c => Char.ofNat c.toNat, value := value.map fun c => Char.ofNat c.toNat, timescale := a
        presentation := w.toNat, eventDuration := x, id := y, messageData := rest } := by
  have h : Reads readEmsgV0 ((scheme ++ [0]) ++ ((value ++ [0]) ++
      (wordBytes a ++ (wordBytes w ++ (wordBytes x ++ (wordBytes y ++ rest)))))) [] _ :=
    (Reads.ascii hs _).bind <| (Reads.ascii hv _).bind <| (Reads.u32 a _).bind <| (Reads.u32 w _).bind <|
      (Reads.u32 x _).bind <| (Reads.u32 y _).bind <| (Reads.rest rest).map _
  simp only [List.append_assoc] at h ⊢
  exact h

theorem readEmsgV1_reads {guard : Bool} {scheme value : List Byte} (hs : ∀ c ∈ scheme, 1 ≤ c.toNat ∧ c.toNat ≤ 0x7F)
    (hv : ∀ c ∈ value, 1 ≤ c.toNat ∧ c.toNat ≤ 0x7F) {q : BitVec 64} (hq : guard = true → q.toNat < 2 ^ 53) (a x y : Word)
    (rest : List Byte) :
    Reads (readEmsgV1 guard)
      (wordBytes a ++ longBytes q ++ wordBytes x ++ wordBytes y ++ scheme ++ [0] ++ value ++ [0] ++ rest) []
      { schemeIdUri := scheme.map fun c => Char.ofNat c.toNat, value := value.map fun c => Char.ofNat c.toNat, timescale := a
        presentation := q.toNat, eventDuration := x, id := y, messageData := rest } := by
  have h : Reads (readEmsgV1 guard) (wordBytes a ++ (longBytes q ++ (wordBytes x ++ (wordBytes y ++
      ((scheme ++ [0]) ++ ((value ++ [0]) ++ rest)))))) [] _ :=
    (Reads.u32 a _).bind <| (Reads.u64 hq _).bind <| (Reads.u32 x _).bind <| (Reads.u32 y _).bind <|
      (Reads.ascii hs _).bind <| (Reads.ascii hv _).bind <| (Reads.rest rest).map _
  simp only [List.append_assoc] at h ⊢
  exact h

/-! ## A 64-bit field that fails under the guard (20_memory.md R75) -/

theorem readTfhd_fails {guard : Bool} {b : BoxCtx} {flags : BitVec 24} (hb : b.flags = some flags) (hm : flags &&& 0x01 ≠ 0) (a : Word)
    {after : List Byte} (hq : FailsAfter (readU64 guard) [] after) : FailsAfter (readTfhd guard b) (wordBytes a) after :=
  (Reads.u32 a _).nextFails <| (hq.flagged hb hm).bind _

theorem readEmsgV1_fails {guard : Bool} (a : Word) {after : List Byte} (hq : FailsAfter (readU64 guard) [] after) :
    FailsAfter (readEmsgV1 guard) (wordBytes a) after := (Reads.u32 a _).nextFails <| hq.bind _

theorem readPrft_fails {guard : Bool} {b : BoxCtx} (hb : isV1 b = true) (a w x : Word) {after : List Byte}
    (hq : FailsAfter (readU64 guard) [] after) : FailsAfter (readPrft guard b) (wordBytes a ++ wordBytes w ++ wordBytes x) after := by
  rw [readPrft, hb, List.append_assoc]
  exact (Reads.u32 a _).thenFails <| (Reads.u32 w _).thenFails <| (Reads.u32 x _).nextFails <| hq.bind _

theorem readElst_fails {guard : Bool} {b : BoxCtx} (hb : isV1 b = true) {after : List Byte}
    (hq : FailsAfter (readU64 guard) [] after) : FailsAfter (readElst guard b) (wordBytes 1) after := by
  have hentry : FailsAfter (readElstEntry guard b) [] after := by
    rw [readElstEntry, hb]
    exact hq.bind _
  exact (Reads.u32 1 _).nextFails hentry.once

theorem readElst_fails_time {guard : Bool} {b : BoxCtx} (hb : isV1 b = true) {q : BitVec 64} (hp : guard = true → q.toNat < 2 ^ 53)
    {after : List Byte} (hq : FailsAfter (readI64 guard) [] after) :
    FailsAfter (readElst guard b) (wordBytes 1 ++ longBytes q) after := by
  have hentry : FailsAfter (readElstEntry guard b) (longBytes q) after := by
    rw [readElstEntry, hb]
    exact (Reads.wide_long hp _).nextFails <| hq.bind _
  exact (Reads.u32 1 _).thenFails hentry.once

theorem readSidx_fails {guard : Bool} {b : BoxCtx} (hb : isV1 b = true) (a w : Word) {after : List Byte}
    (hq : FailsAfter (readU64 guard) [] after) : FailsAfter (readSidx guard b) (wordBytes a ++ wordBytes w) after := by
  rw [readSidx, hb]
  exact (Reads.u32 a _).thenFails <| (Reads.u32 w _).nextFails <| hq.bind _

theorem readSidx_fails_offset {guard : Bool} {b : BoxCtx} (hb : isV1 b = true) (a w : Word) {q : BitVec 64}
    (hp : guard = true → q.toNat < 2 ^ 53) {after : List Byte} (hq : FailsAfter (readU64 guard) [] after) :
    FailsAfter (readSidx guard b) (wordBytes a ++ wordBytes w ++ longBytes q) after := by
  rw [readSidx, hb, List.append_assoc]
  exact (Reads.u32 a _).thenFails <| (Reads.u32 w _).thenFails <| (Reads.wide_long hp _).nextFails <| hq.bind _

end Sys2Proof.Machine

open Sys2Proof Sys2Proof.Machine

/-- Settles O32: each layout as a chain of reads, and the 64-bit fields that fail under the guard. -/
theorem fieldsAreReadAtTheirPlaces : Obligations.FieldsAreReadAtTheirPlaces := by
  intro sp b guard flags a w x y z v q q2 hb passes flagged field ref
  refine ⟨(readTrex_reads a w x y z []).whole sp, fun hq => (readTfhd_reads hb a w x y z hq.resolve_left []).whole sp, fun hv => ?_,
    fun hv hq => ?_, fun hg hq rest => ?_, fun ver r0 c prot ivSize kid iv hver hkid hiv => ?_, fun scheme value rest hc => ?_⟩
  · have hv0 := (isV1_eq_false_iff b).mpr hv
    have hwide (n : Word) (after : List Byte) : Reads (readWide guard (isV1 b)) (wordBytes n) after n.toNat := by
      rw [hv0]
      exact Reads.wide_word guard n after
    have htime : Reads (if isV1 b then readI64 guard else readI32) (wordBytes x) (wordBytes y ++ []) x.toInt := by
      rw [hv0]
      exact Reads.i32 x _
    have helst := (readElst_reads (readElstEntry_reads y (hwide w _) htime)).whole sp
    refine ⟨(readTfdt_reads_word guard hv0 a []).whole sp, (readPrft_reads a w x (hwide y _)).whole sp, ?_,
      (readSidx_reads a w z v w (hwide x) (hwide y) []).whole sp⟩
    simp only [List.append_assoc]
    exact helst
  · have hv1 := (isV1_iff b).mpr hv
    have hwide {n : BitVec 64} (hn : passes n) (after : List Byte) :
        Reads (readWide guard (isV1 b)) (longBytes n) after n.toNat := by
      rw [hv1]
      exact Reads.wide_long hn after
    refine ⟨readTfdt_long hv1 ▸ (Reads.u64 hq []).whole sp, (readPrft_reads a w x (hwide hq _)).whole sp, fun hq2 =>
      ⟨?_, (readSidx_reads a w z v w (hwide hq) (hwide hq2) []).whole sp⟩⟩
    have htime : Reads (if isV1 b then readI64 guard else readI32) (longBytes q2) (wordBytes y ++ []) q2.toInt := by
      rw [hv1]
      exact Reads.i64 hq2 _
    have helst := (readElst_reads (readElstEntry_reads y (hwide hq _) htime)).whole sp
    simp only [List.append_assoc]
    exact helst
  · have hfails := failsAfter_u64 hg hq rest
    intro fails
    refine ⟨fun hm => (readTfhd_fails hb hm a hfails).whole sp, (readEmsgV1_fails a hfails).whole sp, fun hv => ?_⟩
    have hv1 := (isV1_iff b).mpr hv
    exact ⟨readTfdt_long hv1 ▸ hfails.whole sp, (readPrft_fails hv1 a w x hfails).whole sp, (readElst_fails hv1 hfails).whole sp,
      (readSidx_fails hv1 a w hfails).whole sp, fun hq2 =>
        ⟨(readElst_fails_time hv1 hq2 (failsAfter_i64 hg hq rest)).whole sp, (readSidx_fails_offset hv1 a w hq2 hfails).whole sp⟩⟩
  · exact (readTenc_reads hver r0 c prot ivSize hkid hiv []).whole sp
  · obtain ⟨hs, hval⟩ := List.forall_mem_append.mp hc
    exact ⟨(readEmsgV0_reads hs hval a w x y rest).whole sp, fun hq => (readEmsgV1_reads hs hval hq a x y rest).whole sp⟩
end

section
/-! SUPPORT. The family of 30_encoding.md (O1 to O5, O7, O37). First: decode and encode agree for CEA-608 pairs (O2), from the fields of
a pair (`extractLsb'_controlPair`) and the class that its fields pick (`controlInstr_controlPair`). -/

namespace Sys2Proof

/-! ## Fields of words -/

theorem append_eq_append_iff {v w : Nat} {x x' : BitVec v} {y y' : BitVec w} : x ++ y = x' ++ y' ↔ x = x' ∧ y = y' := by
  refine ⟨fun h => ⟨?_, ?_⟩, fun ⟨hx, hy⟩ => hx ▸ hy ▸ rfl⟩
  · simpa only [BitVec.extractLsb'_append_eq_left] using congrArg (BitVec.extractLsb' w v) h
  · simpa only [BitVec.extractLsb'_append_eq_right] using congrArg (BitVec.extractLsb' 0 w) h

/-- Two adjacent fields of a word, put together. -/
theorem extractLsb'_join {w : Nat} (x : BitVec w) {i j m n : Nat} (h : i = j + n) :
    x.extractLsb' i m ++ x.extractLsb' j n = x.extractLsb' j (m + n) :=
  BitVec.extractLsb'_append_extractLsb'_eq_extractLsb' h

/-- The top field of a value, by a mask of that field. -/
theorem field_of_masked {v w : Nat} {x : BitVec (v + w)} {p : BitVec v} (h : x &&& (BitVec.allOnes v ++ 0#w) = p ++ 0#w) :
    x.extractLsb' w v = p := by
  have hx : x.extractLsb' w v ++ x.extractLsb' 0 w = x := BitVec.extractLsb'_append_extractLsb'
  rw [← hx, BitVec.and_append, append_eq_append_iff, BitVec.and_allOnes] at h
  exact h.1

/-- A value is its top field, known from a mask, and the rest. -/
theorem append_of_masked {v w : Nat} {x : BitVec (v + w)} {p : BitVec v} (h : x &&& (BitVec.allOnes v ++ 0#w) = p ++ 0#w) :
    p ++ x.extractLsb' 0 w = x := by
  rw [← field_of_masked h, BitVec.extractLsb'_append_extractLsb']

/-! ## CEA-608 pairs (30 R110-R120) -/

/-! ### Parity -/

theorem oddParity_withParity : ∀ b : BitVec 7, oddParity (withParity b) = true := by decide

theorem extractLsb'_withParity : ∀ b : BitVec 7, (withParity b).extractLsb' 0 7 = b := by decide

theorem withParity_extractLsb' : ∀ c : Byte, oddParity c = true → withParity (c.extractLsb' 0 7) = c := by decide

/-- A pair is bad where a byte has even parity: FF and 00, which R111 names too, have it. -/
theorem badPair_eq_false_iff (c1 c2 : Byte) : badPair c1 c2 = false ↔ oddParity c1 = true ∧ oddParity c2 = true := by
  have hff : oddParity 0xFF#8 = false := by decide
  have h00 : oddParity 0x00#8 = false := by decide
  have hne {c : Byte} (hc : oddParity c = true) : c ≠ 0xFF#8 ∧ c ≠ 0x00#8 := by
    constructor
    · rintro rfl
      cases hff.symm.trans hc
    · rintro rfl
      cases h00.symm.trans hc
  constructor
  · intro h
    simp only [badPair, Bool.or_eq_false_iff, Bool.not_eq_false'] at h
    obtain ⟨⟨-, h1⟩, h2⟩ := h
    exact ⟨h1, h2⟩
  · rintro ⟨h1, h2⟩
    simp [badPair, h1, h2, hne h1]

/-! ### The fields of a pair -/

theorem pairOf_low (b1 b2 : BitVec 7) {k n : Nat} (h : k + n ≤ 7) : (pairOf b1 b2).extractLsb' k n = b2.extractLsb' k n := by
  rw [pairOf, BitVec.extractLsb'_append_eq_of_add_le (by omega), BitVec.extractLsb'_append_eq_of_add_le h]

theorem pairOf_high (b1 b2 : BitVec 7) {k n : Nat} (h : k + n ≤ 7) :
    (pairOf b1 b2).extractLsb' (8 + k) n = b1.extractLsb' k n := by
  rw [pairOf, BitVec.extractLsb'_append_eq_of_le (by omega), Nat.add_sub_cancel_left, BitVec.extractLsb'_append_eq_of_add_le h]

/-- The two stripped bytes of a pair. -/
theorem extractLsb'_pairOf (b1 b2 : BitVec 7) :
    (pairOf b1 b2).extractLsb' 8 7 = b1 ∧ (pairOf b1 b2).extractLsb' 0 7 = b2 :=
  ⟨(pairOf_high b1 b2 (k := 0) (by decide)).trans BitVec.extractLsb'_eq_self,
    (pairOf_low b1 b2 (by decide)).trans BitVec.extractLsb'_eq_self⟩

theorem ctlByte_low (chan : BitVec 1) (low : BitVec 3) {k n : Nat} (h : k + n ≤ 3) :
    (ctlByte chan low).extractLsb' k n = low.extractLsb' k n := by
  rw [ctlByte, BitVec.extractLsb'_append_eq_of_add_le h]

theorem controlPair_b2 (chan : BitVec 1) (low : BitVec 3) (b2 : BitVec 7) {k n : Nat} (h : k + n ≤ 7) :
    (controlPair chan low b2).extractLsb' k n = b2.extractLsb' k n := pairOf_low _ _ h

theorem controlPair_low (chan : BitVec 1) (low : BitVec 3) (b2 : BitVec 7) {k n : Nat} (h : k + n ≤ 3) :
    (controlPair chan low b2).extractLsb' (8 + k) n = low.extractLsb' k n :=
  (pairOf_high _ _ (by omega)).trans (ctlByte_low chan low h)

/-- The operands of a control pair: the channel bit, bits 2:0 of its first byte, and its second byte (30 R113). -/
theorem extractLsb'_controlPair (chan : BitVec 1) (low : BitVec 3) (b2 : BitVec 7) :
    (controlPair chan low b2).extractLsb' 11 1 = chan ∧ (controlPair chan low b2).extractLsb' 8 3 = low ∧
      (controlPair chan low b2).extractLsb' 0 7 = b2 := by
  refine ⟨?_, (controlPair_low chan low b2 (k := 0) (by decide)).trans BitVec.extractLsb'_eq_self, (extractLsb'_pairOf _ b2).2⟩
  refine (pairOf_high (ctlByte chan low) b2 (k := 3) (by decide)).trans ?_
  rw [ctlByte, BitVec.extractLsb'_append_eq_of_le (by decide), BitVec.extractLsb'_append_eq_right]

/-- A mask of 30 R112 tests every fixed bit and not the channel bit; what else it tests are bits 2:0 of `b1`, and `b2`. -/
theorem controlPair_masked (chan : BitVec 1) (low mlow vlow : BitVec 3) (b2 m2 v2 : BitVec 7) :
    controlPair chan low b2 &&& (1#1 ++ (7#3 ++ 0#1 ++ mlow) ++ (1#1 ++ m2)) = controlPair 0#1 vlow v2 ↔
      low &&& mlow = vlow ∧ b2 &&& m2 = v2 := by
  rw [controlPair, pairOf, ctlByte, controlPair, pairOf, ctlByte]
  iterate 5 rw [BitVec.and_append]
  iterate 5 rw [append_eq_append_iff]
  simp

/-- A pair is a control pair exactly where its first byte is `001`, a channel bit and three more. -/
theorem isControl_pairOf (b1 b2 : BitVec 7) : isControl (pairOf b1 b2) = true ↔ b1.extractLsb' 4 3 = 1#3 := by
  have hand : ∀ b : BitVec 7, b &&& 0x70#7 = 0x10#7 ↔ b.extractLsb' 4 3 = 1#3 := by decide
  rw [isControl, beq_iff_eq, pairOf, ← hand, show (0x7000#16) = 0#1 ++ 0x70#7 ++ (0#1 ++ 0#7) from rfl,
    show (0x1000#16) = 0#1 ++ 0x10#7 ++ (0#1 ++ 0#7) from rfl]
  iterate 3 rw [BitVec.and_append]
  iterate 3 rw [append_eq_append_iff]
  simp

theorem isControl_controlPair (chan : BitVec 1) (low : BitVec 3) (b2 : BitVec 7) : isControl (controlPair chan low b2) = true := by
  rw [controlPair, isControl_pairOf, ctlByte, BitVec.extractLsb'_append_eq_of_le (by decide),
    BitVec.extractLsb'_append_eq_of_le (by decide)]
  exact BitVec.extractLsb'_eq_self

/-- A control pair is the one of its operands. -/
theorem exists_controlPair {b1 b2 : BitVec 7} (h : isControl (pairOf b1 b2) = true) :
    ∃ chan low, b1 = ctlByte chan low := by
  refine ⟨b1.extractLsb' 3 1, b1.extractLsb' 0 3, ?_⟩
  rw [ctlByte, ← (isControl_pairOf b1 b2).mp h, extractLsb'_join b1 (by rfl), extractLsb'_join b1 (by rfl)]
  exact BitVec.extractLsb'_eq_self.symm

theorem controlPair_ne_zero (chan : BitVec 1) (low : BitVec 3) (b2 : BitVec 7) : controlPair chan low b2 ≠ 0 := by
  intro h
  have hc := isControl_controlPair chan low b2
  rw [h] at hc
  cases hc

/-! ### The classes of control pairs -/

/-- The classes 2 to 7b of 30 R112, each by the fields that its mask tests. -/
theorem controlInstr_controlPair (chan : BitVec 1) (low : BitVec 3) (b2 : BitVec 7) :
    controlInstr (controlPair chan low b2) =
      if b2 &&& 0x40#7 = 0x40#7 then .pac608 chan (low ++ b2.extractLsb' 5 1) (b2.extractLsb' 1 4) (b2.extractLsb' 0 1)
      else if low = 1#3 ∧ b2 &&& 0x70#7 = 0x20#7 then .midrow608 chan (b2.extractLsb' 1 3) (b2.extractLsb' 0 1)
      else if low = 0#3 ∧ b2 &&& 0x70#7 = 0x20#7 then .bg608 chan (b2.extractLsb' 0 4)
      else if low = 7#3 ∧ b2 = 0x2D#7 then .bgBlack608 chan
      else if low = 1#3 ∧ b2 &&& 0x70#7 = 0x30#7 then .special608 chan (b2.extractLsb' 0 4)
      else if low &&& 6#3 = 2#3 ∧ b2 &&& 0x60#7 = 0x20#7 then .extended608 chan (low.extractLsb' 0 1) (b2.extractLsb' 0 5)
      else if low &&& 6#3 = 4#3 ∧ b2 &&& 0x70#7 = 0x20#7 then miscInstr (b2.extractLsb' 0 4) chan (low.extractLsb' 0 1)
      else .unrecognized608 chan low b2 := by
  obtain ⟨hchan, hlow, -⟩ := extractLsb'_controlPair chan low b2
  have hlow7 : low &&& 7#3 = low := BitVec.and_allOnes
  have hb27F : b2 &&& 0x7F#7 = b2 := BitVec.and_allOnes
  have hpac : controlPair chan low b2 &&& 0xF0C0#16 = 0x1040#16 ↔ b2 &&& 0x40#7 = 0x40#7 :=
    (controlPair_masked chan low 0#3 0#3 b2 0x40#7 0x40#7).trans (by simp)
  have hrow (vlow : BitVec 3) (v2 : BitVec 7) := controlPair_masked chan low 7#3 vlow b2 0x70#7 v2
  have hblack := controlPair_masked chan low 7#3 7#3 b2 0x7F#7 0x2D#7
  rw [hlow7] at hrow hblack
  rw [hb27F] at hblack
  have hbit : (controlPair chan low b2).extractLsb' 8 1 = low.extractLsb' 0 1 := controlPair_low chan low b2 (k := 0) (by decide)
  simp only [controlInstr, hchan, hlow, hbit, controlPair_b2 chan low b2, Nat.reduceAdd, Nat.reduceLeDiff, BitVec.extractLsb'_eq_self]
  exact if_congr hpac rfl <| if_congr (hrow 1#3 0x20#7) rfl <| if_congr (hrow 0#3 0x20#7) rfl <| if_congr hblack rfl <|
    if_congr (hrow 1#3 0x30#7) rfl <| if_congr (controlPair_masked chan low 6#3 2#3 b2 0x60#7 0x20#7) rfl <|
    if_congr (controlPair_masked chan low 6#3 4#3 b2 0x70#7 0x20#7) rfl rfl

theorem encode_miscInstr : ∀ (code : BitVec 4) (chan ign : BitVec 1), encode (miscInstr code chan ign) = misc code chan ign := by
  decide

/-- A control pair's instruction keeps every bit of the pair. -/
theorem encode_controlInstr (chan : BitVec 1) (low : BitVec 3) (b2 : BitVec 7) :
    encode (controlInstr (controlPair chan low b2)) = ctl chan low b2 := by
  rw [controlInstr_controlPair]
  split_ifs with hpac hmid hbg hblack hspecial hext hmisc
  · rw [encode, pacB2, BitVec.extractLsb'_append_eq_left, BitVec.extractLsb'_append_eq_right,
      ← field_of_masked (v := 1) (w := 6) (p := 1#1) hpac, extractLsb'_join b2 (by rfl), extractLsb'_join b2 (by rfl),
      extractLsb'_join b2 (by rfl)]
    exact congrArg (ctl chan low) BitVec.extractLsb'_eq_self
  · obtain ⟨rfl, h⟩ := hmid
    rw [encode, ← field_of_masked (v := 3) (w := 4) (p := 2#3) h, extractLsb'_join b2 (by rfl), extractLsb'_join b2 (by rfl)]
    exact congrArg (ctl chan 1#3) BitVec.extractLsb'_eq_self
  · obtain ⟨rfl, h⟩ := hbg
    rw [encode, append_of_masked (v := 3) (w := 4) h]
  · obtain ⟨rfl, rfl⟩ := hblack
    rfl
  · obtain ⟨rfl, h⟩ := hspecial
    rw [encode, append_of_masked (v := 3) (w := 4) h]
  · obtain ⟨hl, h⟩ := hext
    rw [encode, append_of_masked (v := 2) (w := 1) hl, append_of_masked (v := 2) (w := 5) h]
  · obtain ⟨hl, h⟩ := hmisc
    rw [encode_miscInstr, misc, miscB2, append_of_masked (v := 2) (w := 1) hl, append_of_masked (v := 3) (w := 4) h]
  · rfl

/-- The class that a clean control pair falls in: a duplicate, or one of classes 2 to 7b. -/
theorem cleanInstr_controlPair (last : Option Pair) (chan : BitVec 1) (low : BitVec 3) (b2 : BitVec 7) :
    cleanInstr last (controlPair chan low b2) =
      if last = some (controlPair chan low b2) then .dup608 chan low b2 else controlInstr (controlPair chan low b2) := by
  obtain ⟨hchan, hlow, hb2⟩ := extractLsb'_controlPair chan low b2
  rw [cleanInstr, if_neg (controlPair_ne_zero chan low b2), if_pos (isControl_controlPair ..), hchan, hlow, hb2]

theorem pairOf_eq_zero {b1 b2 : BitVec 7} (h : pairOf b1 b2 = 0) : b1 = 0 ∧ b2 = 0 := by
  obtain ⟨h1, h2⟩ := extractLsb'_pairOf b1 b2
  rw [h] at h1 h2
  exact ⟨h1.symm, h2.symm⟩

theorem encode_cleanInstr (last : Option Pair) (b1 b2 : BitVec 7) :
    encode (cleanInstr last (pairOf b1 b2)) = pairBytes b1 b2 := by
  by_cases hz : pairOf b1 b2 = 0
  · obtain ⟨rfl, rfl⟩ := pairOf_eq_zero hz
    rfl
  · by_cases hc : isControl (pairOf b1 b2) = true
    · obtain ⟨chan, low, rfl⟩ := exists_controlPair hc
      rw [← controlPair, cleanInstr_controlPair]
      split
      · rfl
      · exact encode_controlInstr chan low b2
    · obtain ⟨h1, h2⟩ := extractLsb'_pairOf b1 b2
      rw [cleanInstr, if_neg hz, if_neg hc, h1, h2]
      rfl

/-! ### Decode and encode -/

/-- No bit of a raw pair is dropped (30 R111, R112). -/
theorem encode_pairInstr (last : Option Pair) (c1 c2 : Byte) : encode (pairInstr last c1 c2) = [c1, c2] := by
  unfold pairInstr
  split
  · rfl
  · next h =>
    obtain ⟨h1, h2⟩ := (badPair_eq_false_iff c1 c2).mp (Bool.eq_false_iff.mpr h)
    rw [strip, encode_cleanInstr, pairBytes, withParity_extractLsb' c1 h1, withParity_extractLsb' c2 h2]

/-- Two bytes with odd parity are a clean pair (30 R110, R111). -/
theorem decode_pairBytes (last : Option Pair) (b1 b2 : BitVec 7) :
    decode (.pair last) (pairBytes b1 b2) = .ok (cleanInstr last (pairOf b1 b2), 2) := by
  have hbad : badPair (withParity b1) (withParity b2) = false :=
    (badPair_eq_false_iff _ _).mpr ⟨oddParity_withParity b1, oddParity_withParity b2⟩
  simp only [decode, decodePair, pairBytes, pairInstr, hbad, Bool.false_eq_true, if_false, strip, extractLsb'_withParity]

theorem decode_ctl (chan : BitVec 1) (low : BitVec 3) (b2 : BitVec 7) :
    decode (.pair none) (ctl chan low b2) = .ok (controlInstr (controlPair chan low b2), 2) := by
  rw [ctl, decode_pairBytes, ← controlPair, cleanInstr_controlPair, if_neg nofun]

theorem decode_misc (code : BitVec 4) (chan ign : BitVec 1) :
    decode (.pair none) (misc code chan ign) = .ok (miscInstr code chan ign, 2) := by
  have h : ∀ (code : BitVec 4) (chan ign : BitVec 1),
      controlInstr (controlPair chan (2#2 ++ ign) (miscB2 code)) = miscInstr code chan ign := by decide
  rw [misc, decode_ctl, h]

theorem decode_pac608 (chan : BitVec 1) (r a : BitVec 4) (u : BitVec 1) :
    decode (.pair none) (encode (.pac608 chan r a u)) = .ok (.pac608 chan r a u, 2) := by
  have hmask : pacB2 r a u &&& 0x40#7 = 0x40#7 := by
    rw [pacB2, show (0x40#7) = 1#1 ++ 0#1 ++ 0#4 ++ 0#1 from rfl]
    iterate 3 rw [BitVec.and_append]
    simp
  have hrow : (pacB2 r a u).extractLsb' 5 1 = r.extractLsb' 0 1 := by
    rw [pacB2, BitVec.extractLsb'_append_eq_of_le (by decide), BitVec.extractLsb'_append_eq_of_le (by decide),
      BitVec.extractLsb'_append_eq_right]
  have hattr : (pacB2 r a u).extractLsb' 1 4 = a := by
    rw [pacB2, BitVec.extractLsb'_append_eq_of_le (by decide), BitVec.extractLsb'_append_eq_right]
  have hul : (pacB2 r a u).extractLsb' 0 1 = u := by
    rw [pacB2, BitVec.extractLsb'_append_eq_right]
  rw [encode, decode_ctl, controlInstr_controlPair, if_pos hmask, hrow, hattr, hul, extractLsb'_join r (by rfl)]
  exact congrArg (fun x => Except.ok (Instr.pac608 chan x a u, 2)) BitVec.extractLsb'_eq_self

/-- A control instruction is decoded back where the class of its pair is its own. -/
theorem decode_encode_control {i : Instr} {chan : BitVec 1} {low : BitVec 3} {b2 : BitVec 7} (he : encode i = ctl chan low b2)
    (hi : controlInstr (controlPair chan low b2) = i) : decode (.pair none) (encode i) = .ok (i, (encode i).length) := by
  rw [he, decode_ctl, hi]
  rfl

end Sys2Proof

open Sys2Proof

/-- Settles O2: a raw pair is bad, or the pair of its two stripped bytes, whose class keeps every bit of them. -/
theorem pairsRoundTrip : Obligations.PairsRoundTrip := by
  refine ⟨fun i last hwf hl => ?_, fun last c1 c2 i n h => ?_⟩
  · cases i with
    | bad608 c1 c2 =>
      have hbad : badPair c1 c2 = true := hwf
      simp only [langOf, encode, decode, decodePair, pairInstr, hbad, if_true, List.length]
    | null608 => exact decode_pairBytes none 0 0
    | dup608 chan low b2 =>
      refine (decode_pairBytes (some (controlPair chan low b2)) (ctlByte chan low) b2).trans ?_
      rw [← controlPair, cleanInstr_controlPair, if_pos rfl]
      rfl
    | pac608 chan r a u => exact decode_pac608 chan r a u
    | midrow608 chan a u =>
      have h : ∀ chan a u, controlInstr (controlPair chan 1#3 (2#3 ++ a ++ u)) = .midrow608 chan a u := by decide
      exact decode_encode_control rfl (h chan a u)
    | bg608 chan l =>
      have h : ∀ chan l, controlInstr (controlPair chan 0#3 (2#3 ++ l)) = .bg608 chan l := by decide
      exact decode_encode_control rfl (h chan l)
    | bgBlack608 chan =>
      have h : ∀ chan, controlInstr (controlPair chan 7#3 0x2D#7) = .bgBlack608 chan := by decide
      exact decode_encode_control rfl (h chan)
    | special608 chan l =>
      have h : ∀ chan l, controlInstr (controlPair chan 1#3 (3#3 ++ l)) = .special608 chan l := by decide
      exact decode_encode_control rfl (h chan l)
    | extended608 chan t l =>
      have h : ∀ chan t l, controlInstr (controlPair chan (1#2 ++ t) (1#2 ++ l)) = .extended608 chan t l := by decide
      exact decode_encode_control rfl (h chan t l)
    | unrecognized608 chan low b2 => exact decode_encode_control rfl (eq_of_beq hwf)
    | basic608 b1 b2 =>
      refine (decode_pairBytes none b1 b2).trans ?_
      simp only [Instr.wf, Bool.and_eq_true, Bool.not_eq_true', bne_iff_ne] at hwf
      obtain ⟨hc, hz⟩ := hwf
      obtain ⟨h1, h2⟩ := extractLsb'_pairOf b1 b2
      rw [cleanInstr, if_neg hz, if_neg (Bool.eq_false_iff.mp hc), h1, h2]
      rfl
    | rcl608 chan ign | bs608 chan ign | aof608 chan ign | aon608 chan ign | der608 chan ign | ru2608 chan ign | ru3608 chan ign
    | ru4608 chan ign | fon608 chan ign | rdc608 chan ign | tr608 chan ign | rtd608 chan ign | edm608 chan ign | cr608 chan ign
    | enm608 chan ign | eoc608 chan ign => exact decode_misc _ chan ign
    | _ => cases hl
  · cases h
    exact encode_pairInstr last c1 c2
end

section
/-! SUPPORT. Every step has a next state (O7), written-out words (O1), and the codes of CEA-708 (O3). -/

open Sys2Proof Sys2Proof.Machine

/-- Settles O1: the decoder run on each word. -/
theorem writtenWordsDecode : Obligations.WrittenWordsDecode := by
  unfold Obligations.WrittenWordsDecode
  decide

/-- Settles O7: an instruction that is fetched is one of the active stage, and no meaning of a stage faults or is refused. -/
theorem everyStepHasANextState : Obligations.EveryStepHasANextState := by
  intro s
  rcases step_cases s with ⟨-, h⟩ | ⟨l, bs, e, -, -, h⟩ | ⟨l, bs, i, n, hf, hd, h⟩
  · exact ⟨_, h⟩
  · exact ⟨_, h⟩
  · have hstage : i.stage = (s.advance n).phase :=
      (decode_stage hd).trans ((fetchPoint_stage hf).trans (s.advance_phase n).symm)
    obtain ⟨t, ht, -⟩ := exec_frame hstage
    exact ⟨t, h.trans ht⟩
end

namespace Sys2Proof

/-! ## CEA-708 (30 R126-R132) -/

/-- The two fields of a service block header (30 R127). -/
theorem extractLsb'_svc (svc : BitVec 3) (size : BitVec 5) :
    (svc ++ size : Byte).extractLsb' 5 3 = svc ∧ (svc ++ size : Byte).extractLsb' 0 5 = size := by
  constructor
  · rw [BitVec.extractLsb'_append_eq_left]
  · rw [BitVec.extractLsb'_append_eq_right]

theorem c0Instr_nop {c : Byte} (h08 : c ≠ 0x08) (h0C : c ≠ 0x0C) (h0D : c ≠ 0x0D) (h0E : c ≠ 0x0E) (h10 : c ≠ 0x10) :
    c0Instr c = .c0Nop c := by
  have hne {k : Byte} (h : c ≠ k) : c.toNat ≠ k.toNat := fun e => h (BitVec.eq_of_toNat_eq e)
  unfold c0Instr
  split
  next h => exact absurd h (hne h08)
  next h => exact absurd h (hne h0C)
  next h => exact absurd h (hne h0D)
  next h => exact absurd h (hne h0E)
  next h => exact absurd h (hne h10)
  next => rfl

/-- The value of a number put together from two fields. -/
theorem toNat_append_eq {v w : Nat} (x : BitVec v) (y : BitVec w) : (x ++ y).toNat = x.toNat * 2 ^ w + y.toNat := by
  rw [BitVec.toNat_append, ← Nat.shiftLeft_add_eq_or_of_lt y.isLt, Nat.shiftLeft_eq]

/-- A byte whose low three bits are an operand: its value and its two fields (30 R131, R132). -/
theorem byte_of_operand (k : BitVec 5) (x : BitVec 3) :
    (k ++ x : Byte).toNat = k.toNat * 8 + x.toNat ∧ (k ++ x : Byte).extractLsb' 3 5 = k ∧ (k ++ x : Byte).extractLsb' 0 3 = x := by
  refine ⟨toNat_append_eq k x, ?_, ?_⟩
  · rw [BitVec.extractLsb'_append_eq_left]
  · rw [BitVec.extractLsb'_append_eq_right]

/-- CWx: 0x80 to 0x87 (30 R131). -/
theorem decodeC1_cwx (x : BitVec 3) (ps : List Byte) : decodeC1 (0x10#5 ++ x) ps = .ok (.cwx x, 1) := by
  have hx := x.isLt
  obtain ⟨hval, hfield, hlow⟩ := byte_of_operand 0x10#5 x
  simp only [BitVec.reduceToNat] at hval
  unfold decodeC1
  split
  case h_17 => rw [if_pos hfield, hlow]
  all_goals omega

/-- DFx: 0x98 to 0x9F, with six parameter bytes (30 R131). -/
theorem decodeC1_dfx (x : BitVec 3) (p1 p2 p3 p4 p5 p6 : Byte) (ps : List Byte) :
    decodeC1 (0x13#5 ++ x) (p1 :: p2 :: p3 :: p4 :: p5 :: p6 :: ps) = .ok (.dfx x p1 p2 p3 p4 p5 p6, 7) := by
  have hx := x.isLt
  obtain ⟨hval, hfield, hlow⟩ := byte_of_operand 0x13#5 x
  simp only [BitVec.reduceToNat] at hval
  unfold decodeC1
  split
  case h_17 => rw [hfield, if_neg (by decide), if_pos rfl, hlow]
  all_goals omega

/-- C1.RESERVED: 0x93 to 0x96 (30 R131). -/
theorem decodeC1_reserved {c : Byte} (hlo : 0x93 ≤ c.toNat) (hhi : c.toNat ≤ 0x96) (ps : List Byte) :
    decodeC1 c ps = .ok (.c1Reserved c, 1) := by
  obtain rfl | rfl | rfl | rfl : c = 0x93#8 ∨ c = 0x94#8 ∨ c = 0x95#8 ∨ c = 0x96#8 := by bv_omega
  all_goals rfl

/-- The codes 0x80 to 0x9F are those of C1 (30 R128). -/
theorem decodeCode_c1 {c : Byte} (hlo : 0x80 ≤ c.toNat) (hhi : c.toNat ≤ 0x9F) (ps : List Byte) :
    decodeCode (c :: ps) = decodeC1 c ps := by
  rw [decodeCode, if_neg (by omega), if_neg (by omega), if_neg (by omega), if_pos (by omega)]

/-! ### Decode and encode -/

/-- Packet bytes are decoded back (45 R361, R362). -/
theorem decode_encode_dtvcc {i : Instr} {start : Bool} (hl : langOf i = .dtvcc start) (rest : List Byte) :
    decodeDtvcc start (encode i ++ rest) = .ok (i, (encode i).length) := by
  cases i with
  | dtvccPacketStart seq code =>
    cases hl
    rw [encode, List.singleton_append, decodeDtvcc, if_pos rfl, BitVec.extractLsb'_append_eq_left,
      BitVec.extractLsb'_append_eq_right, List.length_singleton]
  | dtvccData value =>
    cases hl
    rfl
  | _ => cases hl

/-- Service block headers are decoded back (30 R127). -/
theorem decode_encode_svc {i : Instr} (hwf : i.wf = true) (hl : langOf i = .svc) (rest : List Byte) :
    decodeSvc (encode i ++ rest) = .ok (i, (encode i).length) := by
  cases i with
  | svcHeader svc size =>
    obtain ⟨h5, h0⟩ := extractLsb'_svc svc size
    simp only [Instr.wf, Bool.and_eq_true, bne_iff_ne] at hwf
    obtain ⟨⟨hsvc0, hsvc7⟩, hsize⟩ := hwf
    simp only [encode, List.singleton_append, decodeSvc, h5, h0]
    rw [if_neg (hsvc7 ·.1), if_neg (show ¬ (svc = 0#3 ∨ size = 0#5) from not_or.mpr ⟨hsvc0, hsize⟩)]
    rfl
  | svcExtended size ign svc =>
    obtain ⟨h5, h0⟩ := extractLsb'_svc 7#3 size
    have hign : (ign ++ svc : Byte).extractLsb' 6 2 = ign := by rw [BitVec.extractLsb'_append_eq_left]
    have hsvc : (ign ++ svc : Byte).extractLsb' 0 6 = svc := by rw [BitVec.extractLsb'_append_eq_right]
    simp only [encode, List.cons_append, List.nil_append, decodeSvc, h5, h0, hign, hsvc]
    rw [if_pos ⟨trivial, bne_iff_ne.mp hwf⟩]
    rfl
  | svcNullOrEmpty svc size =>
    obtain ⟨h5, h0⟩ := extractLsb'_svc svc size
    have hempty : svc = 0#3 ∨ size = 0#5 := by simpa [Instr.wf] using hwf
    have hext : ¬ (svc = 7#3 ∧ size ≠ 0#5) := by
      rintro ⟨rfl, hsize⟩
      exact hempty.elim nofun hsize
    simp only [encode, List.singleton_append, decodeSvc, h5, h0]
    rw [if_neg hext, if_pos hempty]
    rfl
  | _ => cases hl

/-- The codes of C0, G0, C1 and G1 are decoded back (30 R128-R131). -/
theorem decode_encode_code {i : Instr} (hwf : i.wf = true) (hl : langOf i = .code) (rest : List Byte) :
    decodeCode (encode i ++ rest) = .ok (i, (encode i).length) := by
  cases i with
  | c0Nop c =>
    simp only [Instr.wf, Bool.and_eq_true, decide_eq_true_eq, bne_iff_ne] at hwf
    obtain ⟨⟨⟨⟨⟨hc, h08⟩, h0C⟩, h0D⟩, h0E⟩, h10⟩ := hwf
    rw [encode, List.singleton_append, decodeCode, if_pos hc, c0Instr_nop h08 h0C h0D h0E h10]
    rfl
  | g0 c =>
    simp only [Instr.wf, Bool.and_eq_true, decide_eq_true_eq] at hwf
    rw [encode, List.singleton_append, decodeCode, if_neg (by omega), if_pos (by omega)]
    rfl
  | c1Reserved c =>
    simp only [Instr.wf, Bool.and_eq_true, decide_eq_true_eq] at hwf
    rw [encode, List.singleton_append, decodeCode_c1 (by omega) (by omega), decodeC1_reserved hwf.1 hwf.2]
    rfl
  | g1 c =>
    simp only [Instr.wf, decide_eq_true_eq] at hwf
    rw [encode, List.singleton_append, decodeCode, if_neg (by omega), if_neg (by omega), if_neg (by omega), if_neg (by omega)]
    rfl
  | cwx x =>
    have hx := x.isLt
    have hval := toNat_append_eq 0x10#5 x
    simp only [BitVec.reduceToNat] at hval
    rw [encode, List.singleton_append, decodeCode_c1 (by omega) (by omega), decodeC1_cwx]
    rfl
  | dfx x p1 p2 p3 p4 p5 p6 =>
    have hx := x.isLt
    have hval := toNat_append_eq 0x13#5 x
    simp only [BitVec.reduceToNat] at hval
    exact (decodeCode_c1 (by omega) (by omega) _).trans (decodeC1_dfx x p1 p2 p3 p4 p5 p6 rest)
  | c0Bs | c0Ff | c0Cr | c0Hcr | ext1 | g0Note | clw | dsw | hdw | tgw | dlw | dly | dlc | rst | spa | spc | spl | swa => rfl
  | _ => cases hl

/-- The extended codes are decoded back (30 R128, R132). -/
theorem decode_encode_ext {i : Instr} (hwf : i.wf = true) (hl : langOf i = .codeExt) (rest : List Byte) :
    decodeExt (encode i ++ rest) = .ok (i, (encode i).length) := by
  cases i with
  | c2Skip0 x | c2Skip1 x | c2Skip2 x | c2Skip3 x | c3Skip4 x | c3Skip5 x =>
    have hx := x.isLt
    simp only [encode, List.cons_append, List.nil_append, decodeExt, byte_of_operand, BitVec.reduceToNat]
    repeat rw [if_neg (by omega)]
    rw [if_pos (by omega)]
    rfl
  | c3Skip0 x =>
    have hx := x.isLt
    simp only [encode, List.cons_append, List.nil_append, decodeExt, toNat_append_eq, BitVec.reduceToNat]
    iterate 7 rw [if_neg (by omega)]
    rw [if_pos (by omega), BitVec.extractLsb'_append_eq_right]
    rfl
  | g2 x =>
    simp only [Instr.wf, Bool.and_eq_true, decide_eq_true_eq] at hwf
    simp only [encode, List.cons_append, List.nil_append, decodeExt]
    iterate 4 rw [if_neg (by omega)]
    rw [if_pos (by omega)]
    rfl
  | g3 x =>
    simp only [Instr.wf, decide_eq_true_eq] at hwf
    simp only [encode, List.cons_append, List.nil_append, decodeExt]
    iterate 8 rw [if_neg (by omega)]
    rfl
  | _ => cases hl

end Sys2Proof

section
open Sys2Proof

/-- Settles O3: each language of the 708 decoder reads its own instructions back. -/
theorem roundTripCodes : Obligations.RoundTripCodes := by
  intro i rest hwf hl
  simp only [List.mem_cons, List.not_mem_nil, or_false] at hl
  rcases hl with hl | hl | hl | hl | hl <;> rw [hl]
  · exact decode_encode_dtvcc hl rest
  · exact decode_encode_dtvcc hl rest
  · exact decode_encode_svc hwf hl rest
  · exact decode_encode_code hwf hl rest
  · exact decode_encode_ext hwf hl rest
end

section
/-! SUPPORT. Decode and encode agree for the container and the elementary stream (O4). A T.35 payload goes by its header bytes
(`t35Header_cases`); O5 and O37 use the same lemmas. -/

namespace Sys2Proof

/-! ## Boxes (30 R101-R103, 41 R160, R161) -/

@[simp] theorem be32_extractLsb' (w : Word) :
    be32 (w.extractLsb' 24 8) (w.extractLsb' 16 8) (w.extractLsb' 8 8) (w.extractLsb' 0 8) = w := by
  rw [be32, extractLsb'_join w (by rfl), extractLsb'_join w (by rfl), extractLsb'_join w (by rfl)]
  exact BitVec.extractLsb'_eq_self

/-- A box header is decoded back: its size word tells which of the three forms it has (30 R101, R103). -/
theorem decode_encode_boxHeader {i : Instr} (hwf : i.wf = true) (hl : langOf i = .boxHeader) (rest : List Byte) :
    decodeBoxHeader (encode i ++ rest) = .ok (i, (encode i).length) := by
  cases i with
  | boxSizeLiteral size type =>
    simp only [Instr.wf, Bool.and_eq_true, bne_iff_ne] at hwf
    simp only [encode, wordBytes, List.cons_append, List.nil_append, decodeBoxHeader, be32_extractLsb']
    rw [if_neg hwf.1, if_neg hwf.2]
    rfl
  | boxSizeRest type =>
    simp only [encode, wordBytes, List.cons_append, List.nil_append, decodeBoxHeader, be32_extractLsb']
    rfl
  | boxLargesize type large =>
    have hlarge : large.extractLsb' 32 32 ++ large.extractLsb' 0 32 = large := BitVec.extractLsb'_append_extractLsb'
    simp only [encode, longBytes, wordBytes, List.cons_append, List.nil_append, decodeBoxHeader, be64, be32_extractLsb', hlarge]
    rfl
  | _ => cases hl

theorem decode_encode_boxVf {i : Instr} (hl : langOf i = .boxVf) (rest : List Byte) :
    decodeVf (encode i ++ rest) = .ok (i, (encode i).length) := by
  cases i with
  | boxFullVf v f =>
    have hf : f.extractLsb' 16 8 ++ f.extractLsb' 8 8 ++ f.extractLsb' 0 8 = f := by
      rw [extractLsb'_join f (by rfl), extractLsb'_join f (by rfl)]
      exact BitVec.extractLsb'_eq_self
    simp only [encode, List.cons_append, decodeVf, hf]
    rfl
  | _ => cases hl

theorem decodeBoxType_wordBytes (p : Pass) (v1 : Bool) (t : Fourcc) (rest : List Byte) :
    decodeBoxType p v1 (wordBytes t ++ rest) = .ok (boxInstr p v1 t, 4) := by
  simp [wordBytes, decodeBoxType]

/-- No type is registered in both passes of a SUBMIT (41 R160, R161). -/
theorem registered_init_of_media {t : Fourcc} (h : (registered .media t).isSome = true) : registered .init t = none := by
  have htable : ∀ e ∈ Pass.media.table, registered .init e.1 = none := by decide
  obtain ⟨⟨k, i⟩, hlook⟩ := Option.isSome_iff_exists.mp h
  obtain ⟨l₁, l₂, hl, -⟩ := List.lookup_eq_some_iff.mp hlook
  exact htable (t, k, i) (by simp [hl])

theorem boxInstr_of_unregistered {p : Pass} {v1 : Bool} {t : Fourcc} (h : registered p t = none) :
    boxInstr p v1 t = .boxUnregistered t := by
  rw [boxInstr, h]

theorem decode_encode_boxType {i : Instr} {p : Pass} {v1 : Bool} (hl : langOf i = .boxType p v1) (rest : List Byte) :
    decodeBoxType p v1 (encode i ++ rest) = .ok (i, (encode i).length) := by
  cases i with
  | boxUnregistered t =>
    have hnone : registered p t = none := by
      cases hl
      split
      · next h => exact registered_init_of_media h
      · next h => exact Option.not_isSome_iff_eq_none.mp h
    rw [encode, decodeBoxType_wordBytes, boxInstr_of_unregistered hnone]
    rfl
  | boxMoov | boxTrak | boxMdia | boxMinf | boxStbl | boxMvex | boxSinf | boxStsd | boxAvc1 | boxAvc3 | boxHvc1 | boxHev1
  | boxEncv | boxFrma | boxMvhd | boxTkhd | boxMdhd | boxTrex | boxMoof | boxTraf | boxTfhd | boxTfdt | boxTrun | boxMdat
  | boxEmsg | boxSidx | boxElst | boxTenc | boxPrft | boxEmsgV1 =>
    cases hl
    exact decodeBoxType_wordBytes ..
  | _ => cases hl

/-! ## NAL units and SEI messages (30 R105-R107) -/

theorem decodeNal_short {c : Codec} {len : Word} (h : len.toNat < c.headerLen) (rest : List Byte) :
    decodeNal c (wordBytes len ++ rest) = .ok (.nalShort len, 4) := by
  simp [wordBytes, decodeNal, h]

theorem decodeNal_header {c : Codec} {len : Word} (h : c.headerLen ≤ len.toNat) (b : Byte) (rest : List Byte) :
    decodeNal c (wordBytes len ++ b :: rest) = .ok (nalInstr c len b, 5) := by
  simp [wordBytes, decodeNal, Nat.not_lt.mpr h]

/-- The three fields of a H.265 NAL's first header byte (30 R106). -/
theorem extractLsb'_nalH265 (i7 i0 : BitVec 1) (t : BitVec 6) :
    (i7 ++ t ++ i0 : Byte).extractLsb' 1 6 = t ∧ (i7 ++ t ++ i0 : Byte).extractLsb' 7 1 = i7 ∧
      (i7 ++ t ++ i0 : Byte).extractLsb' 0 1 = i0 := by
  refine ⟨?_, ?_, ?_⟩
  · rw [BitVec.extractLsb'_append_eq_of_le (by decide), BitVec.extractLsb'_append_eq_right]
  · rw [BitVec.extractLsb'_append_eq_of_le (by decide), BitVec.extractLsb'_append_eq_left]
  · rw [BitVec.extractLsb'_append_eq_right]

theorem decode_encode_nal {i : Instr} {c : Codec} (hwf : i.wf = true) (hl : langOf i = .nal c) (rest : List Byte) :
    decodeNal c (encode i ++ rest) = .ok (i, (encode i).length) := by
  cases i with
  | nalH264Sei len ign =>
    cases hl
    have hlen : Codec.headerLen .h264 ≤ len.toNat := of_decide_eq_true hwf
    rw [encode, List.append_assoc, List.singleton_append, decodeNal_header hlen, nalInstr,
      if_pos BitVec.extractLsb'_append_eq_right, BitVec.extractLsb'_append_eq_left]
    rfl
  | nalH264Other len b =>
    cases hl
    simp only [Instr.wf, Bool.and_eq_true, decide_eq_true_eq, bne_iff_ne] at hwf
    obtain ⟨hlen, hother⟩ := hwf
    rw [encode, List.append_assoc, List.singleton_append, decodeNal_header (c := .h264) hlen, nalInstr, if_neg hother]
    rfl
  | nalH265SeiPre len i7 i0 =>
    cases hl
    have hlen : Codec.headerLen .h265 ≤ len.toNat := of_decide_eq_true hwf
    obtain ⟨ht, h7, h0⟩ := extractLsb'_nalH265 i7 i0 0x27#6
    rw [encode, List.append_assoc, List.singleton_append, decodeNal_header hlen, nalInstr, if_pos ht, h7, h0]
    rfl
  | nalH265SeiSuf len i7 i0 =>
    cases hl
    have hlen : Codec.headerLen .h265 ≤ len.toNat := of_decide_eq_true hwf
    obtain ⟨ht, h7, h0⟩ := extractLsb'_nalH265 i7 i0 0x28#6
    rw [encode, List.append_assoc, List.singleton_append, decodeNal_header hlen, nalInstr, ht,
      if_neg (by decide), if_pos rfl, h7, h0]
    rfl
  | nalH265Other len b =>
    cases hl
    simp only [Instr.wf, Bool.and_eq_true, decide_eq_true_eq, bne_iff_ne] at hwf
    obtain ⟨⟨hlen, hpre⟩, hsuf⟩ := hwf
    rw [encode, List.append_assoc, List.singleton_append, decodeNal_header (c := .h265) hlen, nalInstr, if_neg hpre, if_neg hsuf]
    rfl
  | nalShort len =>
    have hshort : len.toNat < c.headerLen := by
      cases hl
      split
      · next h => simp [h, Codec.headerLen]
      · exact of_decide_eq_true hwf
    rw [encode, decodeNal_short hshort]
    rfl
  | _ => cases hl

/-- A run of 0xFF bytes and a last byte are read as their sum (30 R107). -/
theorem ffSum_replicate (k : Nat) {b : Byte} (hb : b ≠ 0xFF#8) (rest : List Byte) :
    ffSum (List.replicate k 0xFF#8 ++ b :: rest) = some (k * 255 + b.toNat, rest) := by
  induction k with
  | zero => simp [ffSum, hb]
  | succ k ih =>
    rw [List.replicate_succ, List.cons_append, ffSum, if_pos rfl, ih, Option.map_some]
    exact congrArg (fun n => some (n, rest)) (by omega : 255 + (k * 255 + b.toNat) = (k + 1) * 255 + b.toNat)

/-- The accumulated form of a number is read as that number. -/
theorem ffSum_ffBytes (t : Nat) (rest : List Byte) : ffSum (ffBytes t ++ rest) = some (t, rest) := by
  have hlt : t % 255 < 255 := Nat.mod_lt _ (by decide)
  have hval : (BitVec.ofNat 8 (t % 255)).toNat = t % 255 := by
    rw [BitVec.toNat_ofNat]
    omega
  have hne : BitVec.ofNat 8 (t % 255) ≠ 0xFF#8 := fun h => absurd (hval.symm.trans (congrArg BitVec.toNat h)) hlt.ne
  rw [ffBytes, List.append_assoc, List.singleton_append, ffSum_replicate _ hne, hval, Nat.div_add_mod']

theorem decodeSei_ffBytes (t n : Nat) (rest : List Byte) :
    decodeSei (ffBytes t ++ ffBytes n ++ rest) =
      .ok (if t = 4 then .seiT35 n else .seiOther t n, (ffBytes t ++ ffBytes n).length) := by
  rw [decodeSei, List.append_assoc, ffSum_ffBytes]
  simp only [ffSum_ffBytes, ← List.append_assoc]
  rw [List.length_append, Nat.add_sub_cancel]

theorem decode_encode_sei {i : Instr} (hwf : i.wf = true) (hl : langOf i = .sei) (rest : List Byte) :
    decodeSei (encode i ++ rest) = .ok (i, (encode i).length) := by
  cases i with
  | seiT35 n =>
    rw [encode, decodeSei_ffBytes, if_pos rfl]
  | seiOther t n =>
    rw [encode, decodeSei_ffBytes, if_neg (bne_iff_ne.mp hwf)]
  | _ => cases hl

/-! ## T.35 payloads (30 R108, 43 R247) -/

/-- The eight header bytes of an ATSC payload (30 R108). -/
def t35Header : List Byte := [0xB5, 0x00, 0x31, 0x47, 0x41, 0x39, 0x34, 0x03]

theorem t35HeaderOk_iff (a b c d e f g h : Byte) : t35HeaderOk a b c d e f g h = true ↔ [a, b, c, d, e, f, g, h] = t35Header := by
  have hcountry : be16 b c = 0x0031#16 ↔ b = 0x00#8 ∧ c = 0x31#8 := append_eq_append_iff (x' := 0x00#8) (y' := 0x31#8)
  simp [t35HeaderOk, t35Header, hcountry, and_assoc]

/-- A payload lacks the header, or is the header alone, or goes on with a flag byte. -/
theorem t35Header_cases (bs : List Byte) : ¬ t35Header <+: bs ∨ bs = t35Header ∨ ∃ fl r, bs = t35Header ++ fl :: r := by
  by_cases h : t35Header <+: bs
  · obtain ⟨r, rfl⟩ := h
    cases r with
    | nil => exact .inr (.inl (List.append_nil _))
    | cons fl r => exact .inr (.inr ⟨fl, r, rfl⟩)
  · exact .inl h

theorem decodeT35_of_not_prefix {bs : List Byte} (h : ¬ t35Header <+: bs) :
    decodeT35 bs = .ok (.t35Rejected (bs.take 9), (bs.take 9).length) := by
  unfold decodeT35
  split
  · next a b c d e f g k r =>
    have hok : ¬ t35HeaderOk a b c d e f g k = true := fun hok => h ⟨r, by rw [← (t35HeaderOk_iff ..).mp hok]; rfl⟩
    rw [if_neg hok]
  · rfl

theorem decodeT35_header : decodeT35 t35Header = .error (.truncated 8 1) := rfl

theorem decodeT35_flags (fl : Byte) (r : List Byte) :
    decodeT35 (t35Header ++ fl :: r) =
      if fl.getLsbD 6 then .ok (.t35AtscCc (fl.extractLsb' 7 1) (fl.extractLsb' 5 1) (fl.extractLsb' 0 5), 9)
      else .ok (.t35Rejected (t35Header ++ [fl]), 9) := rfl

theorem getLsbD_six_iff (fl : Byte) : fl.getLsbD 6 = true ↔ fl.toNat / 64 % 2 = 1 := by
  rw [BitVec.getLsbD, Nat.testBit_eq_decide_div_mod_eq, decide_eq_true_eq]

/-- A rejected payload is at most 9 bytes that lack the header, or the header and a flag byte with bit 6 clear (30 R136). -/
theorem t35Rejected_wf_iff (bs : List Byte) :
    (Instr.t35Rejected bs).wf = true ↔
      (bs.length ≤ 9 ∧ ¬ t35Header <+: bs) ∨ ∃ fl : Byte, bs = t35Header ++ [fl] ∧ fl.toNat / 64 % 2 = 0 := by
  have hwf : (Instr.t35Rejected bs).wf = true ↔ bs.length ≤ 9 ∧ decodeT35 bs = .ok (.t35Rejected bs, bs.length) := by
    simp [Instr.wf]
  rw [hwf]
  rcases t35Header_cases bs with h | rfl | ⟨fl, r, rfl⟩
  · rw [decodeT35_of_not_prefix h]
    constructor
    · exact fun ⟨hlen, _⟩ => .inl ⟨hlen, h⟩
    · rintro (⟨hlen, -⟩ | ⟨fl, rfl, -⟩)
      · rw [List.take_of_length_le hlen]
        exact ⟨hlen, rfl⟩
      · exact absurd (List.prefix_append ..) h
  · constructor
    · exact fun ⟨_, h⟩ => nomatch decodeT35_header.symm.trans h
    · rintro (⟨-, h⟩ | ⟨fl, h, -⟩)
      · exact absurd List.prefix_rfl h
      · cases h
  · rw [decodeT35_flags]
    constructor
    · rintro ⟨hlen, h⟩
      rw [List.length_append, List.length_cons] at hlen
      obtain rfl : r = [] := List.eq_nil_of_length_eq_zero (by simp only [t35Header, List.length] at hlen; omega)
      split at h
      · cases h
      · next hbit =>
        rw [getLsbD_six_iff] at hbit
        exact .inr ⟨fl, rfl, by omega⟩
    · rintro (⟨-, h⟩ | ⟨fl', h, hbit⟩)
      · exact absurd (List.prefix_append ..) h
      · cases h
        rw [if_neg (by rw [getLsbD_six_iff]; omega)]
        exact ⟨Nat.le_refl 9, rfl⟩

/-- A rejected payload of 9 bytes, or a shorter one at the end, is decoded back. -/
theorem decodeT35_rejected {bs rest : List Byte} (hwf : (Instr.t35Rejected bs).wf = true) (hrest : rest = [] ∨ bs.length = 9) :
    decodeT35 (bs ++ rest) = .ok (.t35Rejected bs, bs.length) := by
  rcases (t35Rejected_wf_iff bs).mp hwf with ⟨hlen, hno⟩ | ⟨fl, rfl, hbit⟩
  · have htake : (bs ++ rest).take 9 = bs := by
      rcases hrest with rfl | h9
      · rw [List.append_nil, List.take_of_length_le hlen]
      · exact List.take_left' h9
    have hno' : ¬ t35Header <+: bs ++ rest := by
      rcases hrest with rfl | h9
      · rwa [List.append_nil]
      · exact fun h => hno (List.prefix_of_prefix_length_le h (List.prefix_append ..) (by simp [t35Header, h9]))
    rw [decodeT35_of_not_prefix hno', htake]
  · rw [List.append_assoc, List.singleton_append, decodeT35_flags, if_neg (by rw [getLsbD_six_iff]; omega)]
    rfl

/-- The flag byte's fields (30 R108). -/
theorem t35Flags_fields (i7 i5 : BitVec 1) (n : BitVec 5) :
    (i7 ++ 1#1 ++ i5 ++ n : Byte).getLsbD 6 = true ∧ (i7 ++ 1#1 ++ i5 ++ n : Byte).extractLsb' 7 1 = i7 ∧
      (i7 ++ 1#1 ++ i5 ++ n : Byte).extractLsb' 5 1 = i5 ∧ (i7 ++ 1#1 ++ i5 ++ n : Byte).extractLsb' 0 5 = n := by
  refine ⟨?_, ?_, ?_, ?_⟩
  · rw [BitVec.getLsbD_append, if_neg (by decide), BitVec.getLsbD_append, if_neg (by decide), BitVec.getLsbD_append]
    rfl
  · rw [BitVec.extractLsb'_append_eq_of_le (by decide), BitVec.extractLsb'_append_eq_of_le (by decide),
      BitVec.extractLsb'_append_eq_left]
  · rw [BitVec.extractLsb'_append_eq_of_le (by decide), BitVec.extractLsb'_append_eq_right]
  · rw [BitVec.extractLsb'_append_eq_right]

theorem decode_encode_t35 {i : Instr} (hwf : i.wf = true) (hl : langOf i = .t35) {rest : List Byte}
    (hrest : ∀ bs, i = .t35Rejected bs → rest = [] ∨ bs.length = 9) :
    decodeT35 (encode i ++ rest) = .ok (i, (encode i).length) := by
  cases i with
  | t35AtscCc i7 i5 n =>
    obtain ⟨hbit, h7, h5, h0⟩ := t35Flags_fields i7 i5 n
    refine (decodeT35_flags (i7 ++ 1#1 ++ i5 ++ n) rest).trans ?_
    rw [if_pos hbit, h7, h5, h0]
    rfl
  | t35Rejected bs => exact decodeT35_rejected hwf (hrest bs rfl)
  | _ => cases hl

/-! ## cc triples (30 R109) -/

/-- The class of a triple by the three bits of its first byte that are read. -/
theorem tripleInstr_append (ign : BitVec 5) (k : BitVec 3) (d1 d2 : Byte) :
    tripleInstr (ign ++ k) d1 d2 =
      if k.getLsbD 2 then
        if k.extractLsb' 0 2 = 0#2 then .cc608F0 ign d1 d2
        else if k.extractLsb' 0 2 = 1#2 then .cc608F1 ign d1 d2
        else if k.extractLsb' 0 2 = 2#2 then .ccDtvccData ign d1 d2
        else .ccDtvccStart ign d1 d2
      else .ccInvalid ign (k.extractLsb' 0 2) d1 d2 := by
  rw [tripleInstr, BitVec.extractLsb'_append_eq_left, BitVec.getLsbD_append, BitVec.extractLsb'_append_eq_of_add_le (by decide),
    if_pos (by decide : 2 < 3)]

theorem decode_encode_triple {i : Instr} (hl : langOf i = .triple) (rest : List Byte) :
    decodeTriple (encode i ++ rest) = .ok (i, (encode i).length) := by
  cases i with
  | cc608F0 ign d1 d2 | cc608F1 ign d1 d2 | ccDtvccData ign d1 d2 | ccDtvccStart ign d1 d2 =>
    exact congrArg (fun x => Except.ok (x, 3)) (tripleInstr_append ign _ d1 d2)
  | ccInvalid ign t d1 d2 =>
    have hvalid : (ign ++ 0#1 ++ t : Byte).getLsbD 2 = false := by
      rw [BitVec.getLsbD_append, if_neg (by decide), BitVec.getLsbD_append, if_pos (by decide)]
      rfl
    have hign : (ign ++ 0#1 ++ t : Byte).extractLsb' 3 5 = ign := by
      rw [BitVec.extractLsb'_append_eq_of_le (by decide), BitVec.extractLsb'_append_eq_left]
    have htype : (ign ++ 0#1 ++ t : Byte).extractLsb' 0 2 = t := by rw [BitVec.extractLsb'_append_eq_right]
    simp only [encode, List.cons_append, decodeTriple, tripleInstr, hvalid, hign, htype]
    rfl
  | _ => cases hl

end Sys2Proof

open Sys2Proof

/-- Settles O4: each language of the container and of the elementary stream reads its own instructions back. -/
theorem roundTripBoxesAndStreams : Obligations.RoundTripBoxesAndStreams := by
  refine ⟨fun i rest hwf hpair hcode hrest => ?_, t35Rejected_wf_iff⟩
  cases hl : langOf i with
  | boxHeader => exact decode_encode_boxHeader hwf hl rest
  | boxVf => exact decode_encode_boxVf hl rest
  | boxType p v1 => exact decode_encode_boxType hl rest
  | nal c => exact decode_encode_nal hwf hl rest
  | sei => exact decode_encode_sei hwf hl rest
  | t35 => exact decode_encode_t35 hwf hl hrest
  | triple => exact decode_encode_triple hl rest
  | pair last => exact absurd hl (hpair last)
  | dtvcc start => cases start <;> simp [hl] at hcode
  | svc | code | codeExt => simp [hl] at hcode
end

section
/-! SUPPORT. What the decoder answers is well formed (O5), and SEI messages and T.35 payloads (O37). -/

namespace Sys2Proof

/-! ## What the decoder answers is well formed (30 R135) -/

theorem decodeBoxHeader_wf {bs : List Byte} {i : Instr} {n : Nat} (h : decodeBoxHeader bs = .ok (i, n)) : i.wf = true := by
  simp only [decodeBoxHeader] at h
  split at h
  · split_ifs at h with h0 h1
    · cases h; rfl
    · split at h <;> cases h; rfl
    · cases h
      exact Bool.and_eq_true_iff.mpr ⟨bne_iff_ne.mpr h0, bne_iff_ne.mpr h1⟩
  all_goals cases h

/-- Every instruction of a registration table is well formed. -/
theorem wf_of_mem_table : ∀ (p : Pass), ∀ e ∈ p.table, e.2.2.wf = true := by
  intro p
  cases p <;> decide

theorem boxInstr_wf (p : Pass) (v1 : Bool) (t : Fourcc) : (boxInstr p v1 t).wf = true := by
  unfold boxInstr
  split
  · rfl
  · split <;> rfl
  · next k i _ h =>
    obtain ⟨l₁, l₂, hl, -⟩ := List.lookup_eq_some_iff.mp h
    exact wf_of_mem_table p (t, k, i) (by simp [hl])

theorem nalInstr_wf {c : Codec} {len : Word} (hlen : c.headerLen ≤ len.toNat) (b : Byte) : (nalInstr c len b).wf = true := by
  cases c with
  | h264 =>
    have hlen' : 1 ≤ len.toNat := hlen
    simp only [nalInstr]
    split
    · exact decide_eq_true hlen'
    · next hsei => simp [Instr.wf, hlen', bne_iff_ne.mpr hsei]
  | h265 =>
    have hlen' : 2 ≤ len.toNat := hlen
    simp only [nalInstr]
    split_ifs with hpre hsuf
    · exact decide_eq_true hlen'
    · exact decide_eq_true hlen'
    · simp [Instr.wf, hlen', bne_iff_ne.mpr hpre, bne_iff_ne.mpr hsuf]

theorem Codec.headerLen_le (c : Codec) : c.headerLen ≤ 2 := by
  cases c <;> decide

theorem decodeNal_wf {c : Codec} {bs : List Byte} {i : Instr} {n : Nat} (h : decodeNal c bs = .ok (i, n)) : i.wf = true := by
  simp only [decodeNal] at h
  split at h
  · split_ifs at h with hlen
    · cases h
      exact decide_eq_true (hlen.trans_le c.headerLen_le)
    · split at h <;> cases h
      exact nalInstr_wf (Nat.le_of_not_lt hlen) _
  · cases h

theorem decodeSei_wf {bs : List Byte} {i : Instr} {n : Nat} (h : decodeSei bs = .ok (i, n)) : i.wf = true := by
  unfold decodeSei at h
  split at h
  · cases h
  · split at h
    · cases h
    · cases h
      split
      · rfl
      · next ht => exact bne_iff_ne.mpr ht

theorem decodeT35_wf {bs : List Byte} {i : Instr} {n : Nat} (h : decodeT35 bs = .ok (i, n)) : i.wf = true := by
  rcases t35Header_cases bs with hno | rfl | ⟨fl, r, rfl⟩
  · rw [decodeT35_of_not_prefix hno] at h
    cases h
    exact (t35Rejected_wf_iff _).mpr (.inl ⟨List.length_take_le .., fun hp => hno (hp.trans (List.take_prefix ..))⟩)
  · cases decodeT35_header.symm.trans h
  · rw [decodeT35_flags] at h
    split at h
    · cases h; rfl
    · next hbit =>
      cases h
      rw [getLsbD_six_iff] at hbit
      exact (t35Rejected_wf_iff _).mpr (.inr ⟨fl, rfl, by omega⟩)

theorem tripleInstr_wf (b d1 d2 : Byte) : (tripleInstr b d1 d2).wf = true := by
  simp only [tripleInstr]
  split_ifs <;> rfl

theorem miscInstr_wf (code : BitVec 4) (chan ign : BitVec 1) : (miscInstr code chan ign).wf = true := by
  unfold miscInstr
  split <;> rfl

theorem controlInstr_wf (chan : BitVec 1) (low : BitVec 3) (b2 : BitVec 7) :
    (controlInstr (controlPair chan low b2)).wf = true := by
  by_cases hun : controlInstr (controlPair chan low b2) = .unrecognized608 chan low b2
  · rw [hun]
    exact beq_iff_eq.mpr hun
  · rw [controlInstr_controlPair] at hun ⊢
    split_ifs at hun ⊢
    iterate 6 (next => rfl)
    · exact miscInstr_wf ..
    · exact absurd rfl hun

theorem cleanInstr_wf (last : Option Pair) (b1 b2 : BitVec 7) : (cleanInstr last (pairOf b1 b2)).wf = true := by
  by_cases hz : pairOf b1 b2 = 0
  · rw [cleanInstr, if_pos hz]
    rfl
  · by_cases hc : isControl (pairOf b1 b2) = true
    · obtain ⟨chan, low, rfl⟩ := exists_controlPair hc
      rw [← controlPair, cleanInstr_controlPair]
      split
      · rfl
      · exact controlInstr_wf chan low b2
    · obtain ⟨h1, h2⟩ := extractLsb'_pairOf b1 b2
      rw [cleanInstr, if_neg hz, if_neg hc, h1, h2]
      exact Bool.and_eq_true_iff.mpr ⟨by simpa using hc, bne_iff_ne.mpr hz⟩

theorem pairInstr_wf (last : Option Pair) (c1 c2 : Byte) : (pairInstr last c1 c2).wf = true := by
  unfold pairInstr
  split
  · next h => exact h
  · exact cleanInstr_wf ..

theorem decodeSvc_wf {bs : List Byte} {i : Instr} {n : Nat} (h : decodeSvc bs = .ok (i, n)) : i.wf = true := by
  simp only [decodeSvc] at h
  split at h
  · next b r =>
    split_ifs at h with hext hempty
    · split at h <;> cases h
      exact bne_iff_ne.mpr hext.2
    · cases h
      simpa [Instr.wf] using hempty
    · cases h
      obtain ⟨hsvc0, hsize⟩ := not_or.mp hempty
      have hsvc7 : b.extractLsb' 5 3 ≠ 7#3 := fun h7 => hext ⟨h7, hsize⟩
      simp only [Instr.wf, Bool.and_eq_true, bne_iff_ne]
      exact ⟨⟨hsvc0, hsvc7⟩, hsize⟩
  · cases h

theorem c0Instr_wf {c : Byte} (hc : c.toNat < 0x20) : (c0Instr c).wf = true := by
  unfold c0Instr
  split
  case h_6 h08 h0C h0D h0E h10 =>
    have hne {k : Byte} (h : c.toNat ≠ k.toNat) : c ≠ k := fun e => h (congrArg BitVec.toNat e)
    simp only [Instr.wf, Bool.and_eq_true, decide_eq_true_eq, bne_iff_ne]
    exact ⟨⟨⟨⟨⟨hc, hne h08⟩, hne h0C⟩, hne h0D⟩, hne h0E⟩, hne h10⟩
  all_goals rfl

theorem decodeC1_wf {c : Byte} {ps : List Byte} {i : Instr} {n : Nat} (h : decodeC1 c ps = .ok (i, n)) : i.wf = true := by
  unfold decodeC1 at h
  split at h
  case h_17 =>
    split_ifs at h
    · cases h; rfl
    · split at h <;> cases h; rfl
  case h_12 hc | h_13 hc | h_14 hc | h_15 hc =>
    cases h
    simp [Instr.wf, hc]
  all_goals cases h; rfl

theorem decodeCode_wf {bs : List Byte} {i : Instr} {n : Nat} (h : decodeCode bs = .ok (i, n)) : i.wf = true := by
  simp only [decodeCode] at h
  split at h
  · split_ifs at h with h20 h7F hnote hA0
    · cases h; exact c0Instr_wf h20
    · cases h
      simp only [Instr.wf, Bool.and_eq_true, decide_eq_true_eq]
      omega
    · cases h; rfl
    · exact decodeC1_wf h
    · cases h
      simp only [Instr.wf, decide_eq_true_eq]
      omega
  · cases h

theorem decodeExt_wf {bs : List Byte} {i : Instr} {n : Nat} (h : decodeExt bs = .ok (i, n)) : i.wf = true := by
  simp only [decodeExt] at h
  split at h
  · split_ifs at h with h08 h10 h18 h20 h80 h88 h90 hA0
    · cases h; rfl
    iterate 3 (split at h <;> cases h; rfl)
    · cases h
      simp only [Instr.wf, Bool.and_eq_true, decide_eq_true_eq]
      omega
    iterate 2 (split at h <;> cases h; rfl)
    · cases h; rfl
    · cases h
      simp only [Instr.wf, decide_eq_true_eq]
      omega
  · cases h

/-- What the decoder answers is well formed, in every language. -/
theorem decode_wf {l : Lang} {bs : List Byte} {i : Instr} {n : Nat} (h : decode l bs = .ok (i, n)) : i.wf = true := by
  cases l with
  | boxHeader => exact decodeBoxHeader_wf h
  | boxVf => simp only [decode, decodeVf] at h; split at h <;> cases h; rfl
  | boxType p v1 => simp only [decode, decodeBoxType] at h; split at h <;> cases h; exact boxInstr_wf ..
  | nal c => exact decodeNal_wf h
  | sei => exact decodeSei_wf h
  | t35 => exact decodeT35_wf h
  | triple => simp only [decode, decodeTriple] at h; split at h <;> cases h; exact tripleInstr_wf ..
  | pair last => simp only [decode, decodePair] at h; split at h <;> cases h; exact pairInstr_wf ..
  | dtvcc start => simp only [decode, decodeDtvcc] at h; split at h <;> cases h; split <;> rfl
  | svc => exact decodeSvc_wf h
  | code => exact decodeCode_wf h
  | codeExt => exact decodeExt_wf h

/-! ## The flag byte in numbers (30 R108) -/

theorem extractLsb'_eq_ofNat {w : Nat} (x : BitVec w) (k n : Nat) : x.extractLsb' k n = BitVec.ofNat n (x.toNat / 2 ^ k) := by
  rw [BitVec.extractLsb', Nat.shiftRight_eq_div_pow]

theorem t35AtscCc_of_flags (fl : Byte) :
    (Except.ok (.t35AtscCc (fl.extractLsb' 7 1) (fl.extractLsb' 5 1) (fl.extractLsb' 0 5), 9) : Decoded) =
      .ok (.t35AtscCc (BitVec.ofNat 1 (fl.toNat / 128)) (BitVec.ofNat 1 (fl.toNat / 32)) (BitVec.ofNat 5 (fl.toNat % 32)), 9) := by
  have hcount : fl.extractLsb' 0 5 = BitVec.ofNat 5 (fl.toNat % 32) := by
    apply BitVec.eq_of_toNat_eq
    simp
  rw [extractLsb'_eq_ofNat fl 7, extractLsb'_eq_ofNat fl 5, hcount]
  rfl

end Sys2Proof

open Sys2Proof Sys2Proof.Machine

/-- Settles O5: each decoder's answers are well formed, and the bytes they take were given. -/
theorem decodedAreWellFormed : Obligations.DecodedAreWellFormed :=
  fun _ _ _ _ h => ⟨decode_wf h, decode_length_le h⟩

/-- Settles O37: the meanings as they are written, and the T.35 check by the header that it looks for. -/
theorem messagesAndPayloads : Obligations.MessagesAndPayloads := by
  intro s
  refine ⟨fun n => rfl, fun type n => rfl, fun a b n => ⟨fun hfit => ?_, fun hend => ?_⟩, fun bs => rfl, fun bs hno => ?_,
    fun flags r => ?_⟩
  · exact if_neg (by omega)
  · exact ⟨_, if_pos (by omega), ⟨⟨rfl, rfl, rfl, rfl, rfl⟩, ⟨rfl, rfl, rfl⟩, ⟨rfl, rfl⟩, rfl⟩⟩
  · rw [← List.length_take]
    exact decodeT35_of_not_prefix hno
  · exact (decodeT35_flags flags r).trans (if_congr (getLsbD_six_iff flags) (t35AtscCc_of_flags flags) rfl)
end

section
/-! SUPPORT. The family of 41_box_engine.md: the end of the init pass (O18), reads that do not fit (O21), headers that end their
level or fail (O24), boxes that are skipped or walked (O25), sample entries (O26) and boxes that store a struct (O28). The boxes rest
on what leaving a box, entering a level and running a field decoder do to a stack of readers whose top is known. -/

namespace Sys2Proof.Machine

/-! ## The end of the init pass -/

theorem timescaleOf_concat_complete (ps : List (Option Word × Option Word)) (k ts : Word) :
    timescaleOf (ps ++ [(some k, some ts)]) = mapPut k ts (timescaleOf ps) := by
  simp [timescaleOf]

theorem timescaleOf_concat_partial (ps : List (Option Word × Option Word)) {p : Option Word × Option Word}
    (h : p.1 = none ∨ p.2 = none) : timescaleOf (ps ++ [p]) = timescaleOf ps := by
  rcases p with ⟨_ | k, _ | ts⟩
  case some.some => simp at h
  all_goals simp [timescaleOf]

/-- The timescale of a track is that of its last complete pair (42 R184). -/
theorem mapGet_timescaleOf (id : Word) (pairs : List (Option Word × Option Word)) :
    mapGet id (timescaleOf pairs) = (pairs.filterMap fun p => if p.1 = some id then p.2 else none).getLast? := by
  induction pairs using List.reverseRecOn with
  | nil => rfl
  | append_singleton ps p ih =>
    rw [List.filterMap_append]
    rcases p with ⟨_ | k, _ | ts⟩
    case some.some =>
      rw [timescaleOf_concat_complete, mapGet_mapPut, ih]
      by_cases hk : id = k
      · simp [hk]
      · simp [hk, Ne.symm hk]
    all_goals
      rw [timescaleOf_concat_partial ps (by simp), ih]
      simp

theorem step_init_end {s : State} (hp : s.phase = .boxHeader) (hnil : s.tx.frames = []) (hpass : s.tx.pass = .init) :
    step s = .next s.withParsedInit.checkDisabled := by
  rw [step_of_none (step_no_level hp hnil).1]
  simp only [State.control, hp, State.endLevel, hnil, State.endPass, hpass, State.endInit_eq]

/-- An init pass without a codec ends the transaction, disabled (43 R234). -/
theorem State.withParsedInit_unknown {s : State} (hc : s.tx.acc.codec = none) :
    s.withParsedInit.checkDisabled =
      { s with
        phase := .idle, init := initContext s.tx.initSpace s.tx.acc, disabled := true, tx := .empty
        outbox := s.outbox ++
          [{ cues := s.tx.cues, timing := s.tx.timing,
             events := s.tx.events ++ [.unknownBitstream s.tx.acc.firstEntry, .extractionDisabled], abnormal := false }] } := by
  have hdis : s.withParsedInit.disabled = true := by simp [State.withParsedInit, initContext, hc, bitstreamOf, disabledBy]
  rw [State.checkDisabled_disabled hdis]
  simp [State.withParsedInit, State.finish, initContext, hc, bitstreamOf, disabledBy, unknownEvents]

theorem disabledBy_bitstreamOf_some (c : Codec) : disabledBy (bitstreamOf (some c)) = false := by cases c <;> rfl

/-- An init pass with a codec goes on to the media pass, enabled (43 R234, R235). -/
theorem State.withParsedInit_known {s : State} {c : Codec} (hc : s.tx.acc.codec = some c) :
    s.withParsedInit.checkDisabled =
      State.startPass { s with init := initContext s.tx.initSpace s.tx.acc, disabled := false } .media := by
  have hdis : disabledBy (initContext s.tx.initSpace s.tx.acc).bitstream = false := by
    simp only [initContext, hc, disabledBy_bitstreamOf_some]
  have hs : s.withParsedInit = { s with init := initContext s.tx.initSpace s.tx.acc, disabled := false } := by
    simp [State.withParsedInit, unknownEvents, hdis, State.logEvents, State.setInit, State.setDisabled]
  rw [hs, State.checkDisabled_enabled rfl]

/-! ## Bytes that do not fit -/

theorem decodeBoxHeader_short {bs : List Byte} (h : bs.length < 8) :
    decode .boxHeader bs = .error (.truncated (if bs.length < 4 then 0 else 4) 4) := by
  rcases bs with _ | ⟨_, _ | ⟨_, _ | ⟨_, _ | ⟨_, _ | ⟨_, _ | ⟨_, _ | ⟨_, _ | ⟨_, r⟩⟩⟩⟩⟩⟩⟩⟩
  case cons.cons.cons.cons.cons.cons.cons.cons => simp at h; omega
  all_goals rfl

/-- A header of size 1 has no room for its largesize. -/
theorem decodeBoxHeader_largesize_short {bs : List Byte} (h1 : bs.take 4 = [0, 0, 0, 1]) (h8 : 8 ≤ bs.length)
    (h16 : bs.length < 16) : decode .boxHeader bs = .error (.truncated 8 8) := by
  obtain ⟨r, rfl⟩ : ∃ r, bs = [0, 0, 0, 1] ++ r := ⟨bs.drop 4, by rw [← h1, List.take_append_drop]⟩
  rcases r with _ | ⟨t0, _ | ⟨t1, _ | ⟨t2, _ | ⟨t3, r⟩⟩⟩⟩
  case cons.cons.cons.cons =>
    simp only [decode, decodeBoxHeader, List.cons_append, List.nil_append]
    rw [if_neg (by decide), if_pos (by decide)]
    split
    · simp at h16
      omega
    · rfl
  all_goals simp at h8

theorem decodeVf_short {bs : List Byte} (h : bs.length < 4) : decode .boxVf bs = .error (.truncated 0 4) := by
  rcases bs with _ | ⟨_, _ | ⟨_, _ | ⟨_, _ | ⟨_, r⟩⟩⟩⟩
  case cons.cons.cons.cons => simp at h; omega
  all_goals rfl

theorem decodeTriple_short {bs : List Byte} (h : bs.length < 3) : decode .triple bs = .error (.truncated bs.length 1) := by
  rcases bs with _ | ⟨_, _ | ⟨_, _ | ⟨_, r⟩⟩⟩
  case cons.cons.cons => simp at h; omega
  all_goals rfl

/-! ## Box headers -/

/-- A size below the header's moves the cursor of the level to its end (41 R151, D7). -/
theorem State.openBox_closes {s : State} {size : Nat} {f : Frame} {r : List Frame} (hf : s.tx.frames = f :: r)
    (hsize : size < f.pos - s.tx.box.start) (type : Fourcc) :
    s.openBox size type =
      { s with
        phase := .boxHeader
        tx := { s.tx with frames := { f with count := f.count.map (· - 1), pos := f.stop } :: r } } := by
  rcases s.openBox_cases size type f r hf with ⟨-, hs⟩ | ⟨hle, -⟩
  · exact hs
  · omega

theorem exec_boxLargesize_openBox {s : State} {f : Frame} {r : List Frame} (hf : s.tx.frames = f :: r) {large : BitVec 64}
    (hguard : s.cfg.safe64Guard = true → large.toNat < 2 ^ 53) (type : Fourcc) :
    exec (.boxLargesize type large) s = .next (s.openBox large.toNat type) := by
  refine exec_header_openBox hf (.inr (.inr ⟨?_, large.isLt, hguard⟩))
  rw [BitVec.ofNat_toNat, BitVec.setWidth_eq]

/-- A largesize whose high word exceeds 0x1FFFFF fails under the guard (20_memory.md R75). -/
theorem exec_boxLargesize_guarded {s : State} {large : BitVec 64} (hguard : s.cfg.safe64Guard = true)
    (hhigh : 0x1FFFFF < (large.extractLsb' 32 32).toNat) (type : Fourcc) :
    exec (.boxLargesize type large) s =
      .next (s.takeBounds { space := passSpace s.tx.pass, pos := s.tx.box.start + 8, n := 8, reason := .guard64 }) := by
  rw [BitVec.extractLsb'_toNat, Nat.shiftRight_eq_div_pow] at hhigh
  have hword : 0x1FFFFF < large.toNat / 2 ^ 32 := hhigh.trans_le (Nat.mod_le ..)
  exact if_pos (Bool.and_eq_true_iff.mpr ⟨hguard, decide_eq_true hword⟩)

/-- A counted level that is owed a box and has no byte left fails at its next header (41 R158). -/
theorem step_counted_at_end {s : State} (hp : s.phase = .boxHeader) {f : Frame} {r : List Frame} (hf : s.tx.frames = f :: r)
    {n : Nat} (hcount : f.count = some (n + 1)) (hend : f.stop ≤ f.pos) :
    ∃ t, step s = .next t ∧ EndsInBounds s t { space := passSpace s.tx.pass, pos := f.pos, n := 4, reason := .pastEnd } := by
  have hfetch := step_level hp hf
  rw [if_neg (by simp [hcount]), Nat.sub_eq_zero_of_le hend] at hfetch
  obtain ⟨hheader, -⟩ := reject_truncated s 0 4
  exact ⟨_, step_of_error hfetch (decodeBoxHeader_short (Nat.zero_lt_succ 7)), hheader f r hp hf⟩

/-! ## Leaving a box -/

theorem State.leaveBox_of_frames {s : State} {f : Frame} {r : List Frame} (hf : s.tx.frames = f :: r) :
    s.leaveBox = { s with phase := .boxHeader, tx := { s.tx with frames := { f with pos := s.tx.box.stop } :: r } } := by
  simp only [State.leaveBox, hf, onTop]

/-- A level that opens when its box is left lies inside the slots of the enclosing reader, unless it has its own (41 R156). -/
theorem State.leaveBox_enterLevel {s : State} {f : Frame} {r : List Frame} (hf : s.tx.frames = f :: r) (pos : Nat)
    (count trak encv : Option Nat) :
    s.leaveBox.enterLevel pos count trak encv =
      { s with
        phase := .boxHeader
        tx := { s.tx with
          frames := { pos := pos, stop := s.tx.box.stop, count := count, trak := trak.or f.trak, encv := encv.or f.encv } ::
            { f with pos := s.tx.box.stop } :: r } } := by
  rw [State.leaveBox_of_frames hf]
  rfl

theorem State.decodeBox_ok {α : Type} {s : State} {p : Rd α} {v : α} {q : Reader} (h : p s.boxReader = .ok (v, q))
    (k : α → State → State) : s.decodeBox p k = k v s.leaveBox := by
  simp only [State.decodeBox, h]

theorem State.decodeBox_error {α : Type} {s : State} {p : Rd α} {e : ReadError} (h : p s.boxReader = .error e)
    (k : α → State → State) : s.decodeBox p k = s.takeBounds e := by
  simp only [State.decodeBox, h]

theorem State.decodeBox_endsInBounds {α : Type} {s : State} {p : Rd α} {e : ReadError} (h : p s.boxReader = .error e)
    (k : α → State → State) : EndsInBounds s (s.decodeBox p k) e :=
  State.decodeBox_error h k ▸ s.takeBounds_endsInBounds e

/-! ## Sample entries -/

theorem readU32_fits {r : Reader} (h : r.pos + 4 ≤ r.stop) :
    readU32 r = .ok (BitVec.ofNat 32 (valueOf r.little (r.mem.slice r.pos 4)), { r with pos := r.pos + 4 }) := by
  simp [readU32, readUint_fits h, bind, StateT.bind, Except.bind, pure, StateT.pure, Except.pure]

theorem readU32_short {r : Reader} (h : r.stop < r.pos + 4) :
    readU32 r = .error { space := r.space, pos := r.pos, n := 4, reason := .pastEnd } := by
  simp [readU32, readUint_short h, bind, StateT.bind, Except.bind]

theorem readEntryCount_of_ok {r r' : Reader} {n : Word} (h : readU32 r = .ok (n, r')) :
    readEntryCount r = .ok ((n.toNat, r'.pos), r') := by
  simp [readEntryCount, h, bind, StateT.bind, Except.bind, pure, StateT.pure, Except.pure, get, getThe, MonadStateOf.get,
    StateT.get]

theorem readEntryCount_of_error {r : Reader} {e : ReadError} (h : readU32 r = .error e) : readEntryCount r = .error e := by
  simp [readEntryCount, h, bind, StateT.bind, Except.bind]

theorem readEntryHeader_fits {r : Reader} (h : r.pos + 78 ≤ r.stop) :
    readEntryHeader r = .ok (r.pos + 78, { r with pos := r.pos + 78 }) := by
  have hend : ¬ r.pos + 78 > r.stop := by omega
  simp [readEntryHeader, skip, hend, bind, StateT.bind, Except.bind, pure, StateT.pure, Except.pure, get, getThe, MonadStateOf.get,
    StateT.get]

theorem readEntryHeader_short {r : Reader} (h : r.stop < r.pos + 78) :
    readEntryHeader r = .error { space := r.space, pos := r.pos, n := 78, reason := .pastEnd } := by
  simp [readEntryHeader, skip, h, bind, StateT.bind, Except.bind]

/-- A visual sample entry is noted, and its boxes are walked after its 78-byte header (41 R157, R162). -/
theorem State.visualEntry_fits {s : State} {f : Frame} {r : List Frame} (hf : s.tx.frames = f :: r)
    (h : s.tx.box.pos + 78 ≤ s.tx.box.stop) (codec : Option Codec) (encv : Option Nat) :
    s.visualEntry codec encv =
      { s with
        phase := .boxHeader
        tx := { s.tx with
          acc := { s.tx.acc with codec := s.tx.acc.codec.or codec }
          frames := { pos := s.tx.box.pos + 78, stop := s.tx.box.stop, count := none, trak := f.trak, encv := encv.or f.encv } ::
            { f with pos := s.tx.box.stop } :: r } } := by
  have hread := readEntryHeader_fits (r := (s.onAcc (noteEntry codec)).boxReader) h
  rw [State.visualEntry, State.decodeBox_ok hread]
  exact State.leaveBox_enterLevel (s := s.onAcc (noteEntry codec)) hf ..

theorem State.visualEntry_short {s : State} (h : s.tx.box.stop < s.tx.box.pos + 78) (codec : Option Codec) (encv : Option Nat) :
    s.visualEntry codec encv =
      s.takeBounds { space := passSpace s.tx.pass, pos := s.tx.box.pos, n := 78, reason := .pastEnd } :=
  State.decodeBox_error (s := s.onAcc (noteEntry codec)) (readEntryHeader_short h) _

/-! ### The codec of a frma -/

theorem bigValue_lt (bs : List Byte) : bigValue bs < 256 ^ bs.length := by
  induction bs with
  | nil => simp [bigValue]
  | cons b r ih =>
    rw [bigValue_cons, List.length_cons, pow_succ]
    have hb : b.toNat * 256 ^ r.length ≤ 255 * 256 ^ r.length := Nat.mul_le_mul_right _ (Nat.le_of_lt_succ b.isLt)
    omega

theorem be32_inj {a b c d a' b' c' d' : Byte} (h : be32 a b c d = be32 a' b' c' d') : a = a' ∧ b = b' ∧ c = c' ∧ d = d' := by
  obtain ⟨habc, hd⟩ := (append_eq_append_iff (v := 24) (w := 8)).mp h
  obtain ⟨hab, hc⟩ := (append_eq_append_iff (v := 16) (w := 8)).mp habc
  obtain ⟨ha, hb⟩ := append_eq_append_iff.mp hab
  exact ⟨ha, hb, hc, hd⟩

theorem wordBytes_be32 (a b c d : Byte) : wordBytes (be32 a b c d) = [a, b, c, d] := by
  obtain ⟨ha, hb, hc, hd⟩ := be32_inj (be32_extractLsb' (be32 a b c d))
  rw [wordBytes, ha, hb, hc, hd]

/-- A run of at most 4 bytes that reads as a fourcc without a leading zero byte is its 4 bytes. -/
theorem eq_wordBytes_of_ofNat_bigValue {bs : List Byte} (hlen : bs.length ≤ 4) {w : Word} (hw : 256 ^ 3 ≤ w.toNat)
    (h : BitVec.ofNat 32 (bigValue bs) = w) : bs = wordBytes w := by
  subst h
  have hvalue : 256 ^ 3 ≤ bigValue bs := hw.trans (BitVec.toNat_ofNat _ _ ▸ Nat.mod_le ..)
  have hlong : 3 < bs.length := (Nat.pow_lt_pow_iff_right (by decide)).mp (hvalue.trans_lt (bigValue_lt bs))
  obtain ⟨a, b, c, d, rfl⟩ : ∃ a b c d, bs = [a, b, c, d] := List.length_eq_four.mp (by omega)
  rw [bigValue_be32, BitVec.ofNat_toNat, BitVec.setWidth_eq, wordBytes_be32]

theorem codecOf_avc : ∀ bs : List Byte, bs ∈ [[0x61, 0x76, 0x63, 0x31], [0x61, 0x76, 0x63, 0x33]] →
    codecOf (BitVec.ofNat 32 (bigValue bs)) = some .h264 := by decide

theorem codecOf_hevc : ∀ bs : List Byte, bs ∈ [[0x68, 0x76, 0x63, 0x31], [0x68, 0x65, 0x76, 0x31]] →
    codecOf (BitVec.ofNat 32 (bigValue bs)) = some .h265 := by decide

/-- No other 4 bytes, and no bytes of a space that ends before them, name a codec. -/
theorem codecOf_other {bs : List Byte} (hlen : bs.length ≤ 4)
    (hno : bs ∉ [[0x61, 0x76, 0x63, 0x31], [0x61, 0x76, 0x63, 0x33], [0x68, 0x76, 0x63, 0x31], [0x68, 0x65, 0x76, 0x31]]) :
    codecOf (BitVec.ofNat 32 (bigValue bs)) = none := by
  have hbytes {w : Word} (hw : 256 ^ 3 ≤ w.toNat) (h : BitVec.ofNat 32 (bigValue bs) = w) : bs = wordBytes w :=
    eq_wordBytes_of_ofNat_bigValue hlen hw h
  unfold codecOf
  rw [if_neg, if_neg]
  all_goals
    rintro (h | h)
    all_goals
      rw [hbytes (by decide) h] at hno
      exact hno (by decide)

theorem noteFrma_first {a : InitAcc} {k : Nat} (h : a.encvs[k]? = some false) (w : Fourcc) :
    noteFrma (some k) w a = { a with encvs := a.encvs.set k true, codec := a.codec.or (codecOf w) } := if_pos h

/-- A frma outside every encv, or a second one inside it, has no effect (log entry 13). -/
theorem noteFrma_other {encv : Option Nat} {a : InitAcc} (h : ∀ k, encv = some k → a.encvs[k]? ≠ some false) (w : Fourcc) :
    noteFrma encv w a = a := by
  cases encv with
  | none => rfl
  | some k => exact if_neg (h k rfl)

/-! ## Boxes that store what they read -/

/-- A decoder whose struct goes to the accumulators of the init pass writes nothing else, and the walk goes on at the box's end. -/
theorem State.decodeBox_onAcc {α : Type} {s : State} {f : Frame} {r : List Frame} (hf : s.tx.frames = f :: r)
    {p : Rd α} {v : α} {q : Reader} (h : p s.boxReader = .ok (v, q)) (g : α → InitAcc → InitAcc) :
    s.decodeBox p (fun x u => u.onAcc (g x)) =
      { s with
        phase := .boxHeader
        tx := { s.tx with acc := g v s.tx.acc, frames := { f with pos := s.tx.box.stop } :: r } } := by
  rw [State.decodeBox_ok h, State.leaveBox_of_frames hf]
  rfl

/-- A decoder whose struct goes to the slots of the media pass writes nothing else, and the walk goes on at the box's end. -/
theorem State.decodeBox_onSlots {α : Type} {s : State} {f : Frame} {r : List Frame} (hf : s.tx.frames = f :: r)
    {p : Rd α} {v : α} {q : Reader} (h : p s.boxReader = .ok (v, q)) (g : α → Slots → Slots) :
    s.decodeBox p (fun x u => u.onSlots (g x)) =
      { s with
        phase := .boxHeader
        tx := { s.tx with slots := g v s.tx.slots, frames := { f with pos := s.tx.box.stop } :: r } } := by
  rw [State.decodeBox_ok h, State.leaveBox_of_frames hf]
  rfl

theorem exec_boxFrma_fits {s : State} {f : Frame} {r : List Frame} (hf : s.tx.frames = f :: r)
    (h : s.tx.box.pos + 4 ≤ s.tx.box.stop) :
    exec .boxFrma s = .next { s with
      phase := .boxHeader
      tx := { s.tx with
        acc := noteFrma f.encv (BitVec.ofNat 32 (bigValue (s.boxMem.slice s.tx.box.pos 4))) s.tx.acc
        frames := { f with pos := s.tx.box.stop } :: r } } := by
  have hread := readU32_fits (r := s.boxReader) h
  show execBoxFrma s = _
  rw [execBoxFrma, hf]
  exact congrArg Host.Outcome.next (State.decodeBox_onAcc hf hread _)

end Sys2Proof.Machine

open Sys2Proof Sys2Proof.Machine

/-- Settles O18: the pass gives its init context, and the codec decides between the end of the transaction and the media pass. -/
theorem initPassCompletes : Obligations.InitPassCompletes := by
  intro s hp hnil hpass
  refine ⟨_, step_init_end hp hnil hpass, ?_⟩
  cases hc : s.tx.acc.codec with
  | none =>
    rw [State.withParsedInit_unknown hc]
    refine ⟨rfl, rfl, rfl, fun id => mapGet_timescaleOf id _, fun _ => ⟨?_, rfl⟩, nofun⟩
    simp [initContext, hc, bitstreamOf]
  | some c =>
    rw [State.withParsedInit_known hc]
    refine ⟨rfl, rfl, rfl, fun id => mapGet_timescaleOf id _, nofun, fun c' hc' => ?_⟩
    cases hc'
    refine ⟨?_, rfl⟩
    simp only [State.startPass, initContext, hc]
    cases c <;> rfl

/-- Settles O21: the decoder says at which byte a short read fails, and the rejection ends the segment there. -/
theorem shortReadsEndTheSegment : Obligations.ShortReadsEndTheSegment := by
  intro s
  refine ⟨fun f r bs hp hf hfetch => ⟨fun hlen => ?_, fun h1 h8 h16 => ?_⟩, fun bs hp hfetch hlen => ?_, fun hp hfetch => ?_,
    fun bs hp hfetch hlen => ?_⟩
  · obtain ⟨hheader, -⟩ := reject_truncated s (if bs.length < 4 then 0 else 4) 4
    refine ⟨_, step_of_error hfetch (decodeBoxHeader_short hlen), ?_⟩
    have hpos : f.pos + (if bs.length < 4 then 0 else 4) = if bs.length < 4 then f.pos else f.pos + 4 := add_ite ..
    exact hpos ▸ hheader f r hp hf
  · obtain ⟨hheader, -⟩ := reject_truncated s 8 8
    exact ⟨_, step_of_error hfetch (decodeBoxHeader_largesize_short h1 h8 h16), hheader f r hp hf⟩
  · obtain ⟨-, hbox, -⟩ := reject_truncated s 0 4
    exact ⟨_, step_of_error hfetch (decodeVf_short hlen), hbox hp⟩
  · obtain ⟨-, -, -, -, hpayload⟩ := reject_truncated s 8 1
    exact ⟨_, step_of_error hfetch decodeT35_header, hpayload (by simp [hp])⟩
  · obtain ⟨-, -, -, -, hpayload⟩ := reject_truncated s bs.length 1
    exact ⟨_, step_of_error hfetch (decodeTriple_short hlen), hpayload (by simp [hp])⟩

/-- Settles O26: what an entry count, an entry header and a frma read, and where the walk goes on. -/
theorem sampleEntriesSetCodec : Obligations.SampleEntriesSetCodec := by
  intro s f r hf
  refine ⟨fun hfit => ⟨_, rfl, ?_⟩, fun hfit p hp => ?_, fun hfit => ?_, fun hfit k hk hfirst => ?_, fun hfit hother => ?_,
    fun hshort i hi => ?_, fun hshort i hi => ?_⟩
  · rw [State.decodeBox_ok (readEntryCount_of_ok (readU32_fits (r := s.boxReader) hfit))]
    exact State.leaveBox_enterLevel hf ..
  · simp only [List.mem_cons, List.not_mem_nil, or_false] at hp
    rcases hp with rfl | rfl | rfl | rfl
    all_goals exact congrArg Host.Outcome.next (State.visualEntry_fits hf hfit _ none)
  · refine congrArg Host.Outcome.next ((State.visualEntry_fits (s := s.onAcc _) hf hfit none _).trans ?_)
    rw [Option.or_none]
    rfl
  · refine ⟨_, exec_boxFrma_fits hf hfit, ?_⟩
    rw [hk, noteFrma_first hfirst]
    exact ⟨rfl, fun havc => congrArg s.tx.acc.codec.or (codecOf_avc _ havc),
      fun hhevc => congrArg s.tx.acc.codec.or (codecOf_hevc _ hhevc),
      fun hno => (congrArg s.tx.acc.codec.or (codecOf_other (Memory.slice_length_le ..) hno)).trans (Option.or_none ..), rfl⟩
  · rw [exec_boxFrma_fits hf hfit, noteFrma_other hother]
  · have hread := readU32_short (r := s.boxReader) hshort
    simp only [List.mem_cons, List.not_mem_nil, or_false] at hi
    rcases hi with rfl | rfl
    · exact ⟨_, rfl, State.decodeBox_endsInBounds (readEntryCount_of_error hread) _⟩
    · exact ⟨_, rfl, State.decodeBox_endsInBounds hread _⟩
  · refine ⟨_, ?_, s.takeBounds_endsInBounds _⟩
    simp only [List.mem_cons, List.not_mem_nil, or_false] at hi
    rcases hi with rfl | rfl | rfl | rfl | rfl
    case inr.inr.inr.inr => exact congrArg Host.Outcome.next (State.visualEntry_short (s := s.onAcc _) hshort none _)
    all_goals exact congrArg Host.Outcome.next (State.visualEntry_short hshort _ none)

/-- Settles O24: a size below its header closes the level, whose next header has no room; a largesize above the guard fails. -/
theorem headerEndsLevelOrFails : Obligations.HeaderEndsLevelOrFails := by
  intro s f r type hf
  refine ⟨fun size hsize => ?_, fun large hsize hguard => ?_, fun n hcount => ?_, fun large hguard hhigh => ?_⟩
  · exact congrArg Host.Outcome.next (State.openBox_closes hf hsize type)
  · rw [exec_boxLargesize_openBox hf hguard, State.openBox_closes hf hsize type]
  · have hlast : f.count.map (· - 1) = some (n + 1) := congrArg (Option.map (· - 1)) hcount
    exact step_counted_at_end (f := { f with pos := f.stop, count := f.count.map (· - 1) }) rfl rfl hlast le_rfl
  · exact ⟨_, exec_boxLargesize_guarded hguard hhigh type, s.takeBounds_endsInBounds _⟩

/-- Settles O25, by what leaving a box and entering its level do to the stack of readers. -/
theorem boxesAreSkippedOrWalked : Obligations.BoxesAreSkippedOrWalked := by
  intro s f r hf
  refine ⟨fun v fl => rfl, fun type => ?_, fun i hi => ?_, ?_, ?_⟩
  · exact congrArg Host.Outcome.next (State.leaveBox_of_frames hf)
  · simp only [List.mem_cons, List.not_mem_nil, or_false] at hi
    rcases hi with rfl | rfl | rfl | rfl | rfl | rfl | rfl
    all_goals exact congrArg Host.Outcome.next (State.leaveBox_enterLevel hf ..)
  · exact congrArg Host.Outcome.next (State.leaveBox_enterLevel (s := s.onAcc _) hf ..)
  · exact congrArg Host.Outcome.next (State.leaveBox_enterLevel (s := s.onSlots _) hf ..)

/-- Settles O28: a read that succeeds stores its struct and leaves the box, one that fails ends the segment. -/
theorem fieldBoxesStoreTheirStruct : Obligations.FieldBoxesStoreTheirStruct := by
  intro s f r hf
  refine ⟨fun id d q h => ?_, fun x q h => ?_, fun d q h => ?_, fun x q h => ?_, fun e h => ?_, fun e h => ?_, fun e h => ?_,
    fun e h => ?_⟩
  · exact ⟨_, congrArg Host.Outcome.next (State.decodeBox_onAcc hf h fun x a => { a with trex := mapPut x.1 x.2 a.trex }), rfl,
      fun k => mapGet_mapPut id k d s.tx.acc.trex⟩
  · exact congrArg Host.Outcome.next (State.decodeBox_onSlots hf h fun x a => { a with tfhd := some x })
  · exact congrArg Host.Outcome.next (State.decodeBox_onSlots hf h fun x a => { a with tfdt := some x })
  · exact congrArg Host.Outcome.next (State.decodeBox_onSlots hf h fun x a => { a with truns := a.truns ++ [x] })
  all_goals exact ⟨_, rfl, State.decodeBox_endsInBounds h _⟩
end

section
/-! SUPPORT. The family of 42_box_fields.md: a trun recovers its arrays (O31), the header boxes read one field after their times
(O27), the decoder-only boxes return their struct (O29), and an mdat of a complete fragment starts the NAL walk (O33). -/

namespace Sys2Proof.Machine

/-! ## trun (42 R186) -/

theorem isV0_eq {b : BoxCtx} {v : Byte} (hb : b.version = some v) : isV0 b = (v == 0) := by
  simp only [isV0, hb, Option.getD_some]
  rfl

theorem Reads.skip (bs after : List Byte) : Reads (skip bs.length) bs after () := by
  intro sp before
  have hfits : ¬ (readerAfter sp before (bs ++ after)).pos + bs.length > (readerAfter sp before (bs ++ after)).stop := by
    simp [readerAfter, wholeReader]
  rw [Machine.skip, if_neg hfits]
  simp [readerAfter, wholeReader]

/-- A word that is skipped exactly where its flag is set leaves no trace in what follows. -/
theorem Reads.skipFlagged {β : Type} {b : BoxCtx} {flags mask : BitVec 24} (hb : b.flags = some flags) (w : Word)
    {next : Unit → Rd β} {ys after : List Byte} {y : β} (hnext : Reads (next ()) ys after y) :
    Reads (if flagSet b mask then Machine.skip 4 >>= next else next ()) ((if flags &&& mask = 0 then [] else wordBytes w) ++ ys)
      after y := by
  by_cases hm : flags &&& mask = 0
  · have hset : flagSet b mask = false := by simp [flagSet, hb, hm]
    rw [hset, if_pos hm]
    exact hnext
  · have hset : flagSet b mask = true := by simpa [flagSet, hb] using hm
    rw [hset, if_neg hm]
    exact (Reads.skip (wordBytes w) _).bind hnext

/-- A read that is repeated once for each element of a list. -/
theorem Reads.times {α β : Type} {p : Rd α} {bytes : β → List Byte} {value : β → α}
    (hp : ∀ x after, Reads p (bytes x) after (value x)) (l : List β) (after : List Byte) :
    Reads (readTimes l.length p) (l.flatMap bytes) after (l.map value) := by
  induction l with
  | nil => exact Reads.pure [] after
  | cons x r ih => exact (hp x _).bind (ih.map (value x :: ·))

/-- The composition time offset is unsigned in version 0, and signed in every other. -/
theorem readCto_reads {b : BoxCtx} {v : Byte} (hb : b.version = some v) (w : Word) (after : List Byte) :
    Reads (readCto b) (wordBytes w) after (if v = 0 then (w.toNat : Int) else w.toInt) := by
  rw [readCto, isV0_eq hb]
  by_cases hv : v = 0
  · rw [if_pos (beq_iff_eq.mpr hv), if_pos hv]
    exact (Reads.u32 w _).map fun n => (n.toNat : Int)
  · rw [if_neg (by simpa using hv), if_neg hv]
    exact Reads.i32 w _

/-- The bytes of a sample's duration, size, flags and composition time offset, each where its flag is set. -/
def trunSampleBytes (flags : BitVec 24) (x : Word × Word × Word × Word) : List Byte :=
  (if flags &&& 0x100 = 0 then [] else wordBytes x.1) ++ (if flags &&& 0x200 = 0 then [] else wordBytes x.2.1) ++
    (if flags &&& 0x400 = 0 then [] else wordBytes x.2.2.1) ++ (if flags &&& 0x800 = 0 then [] else wordBytes x.2.2.2)

/-- The sample that a trun of these flags and this version gives; the sample's own flags are skipped. -/
def trunSampleOf (flags : BitVec 24) (v : Byte) (x : Word × Word × Word × Word) : TrunSample :=
  { dur := if flags &&& 0x100 = 0 then none else some x.1
    size := if flags &&& 0x200 = 0 then none else some x.2.1
    cto := if flags &&& 0x800 = 0 then none else some (if v = 0 then (x.2.2.2.toNat : Int) else x.2.2.2.toInt) }

theorem readTrunSample_reads {b : BoxCtx} {v : Byte} {flags : BitVec 24} (hv : b.version = some v) (hb : b.flags = some flags)
    (x : Word × Word × Word × Word) (after : List Byte) :
    Reads (readTrunSample b) (trunSampleBytes flags x) after (trunSampleOf flags v x) := by
  simp only [trunSampleBytes, List.append_assoc]
  exact (Reads.flagged hb fun _ => Reads.u32 x.1 _).bind <| (Reads.flagged hb fun _ => Reads.u32 x.2.1 _).bind <|
    Reads.skipFlagged hb x.2.2.1 <| (Reads.flagged hb fun _ => readCto_reads hv x.2.2.2 _).map _

theorem readTrun_reads {b : BoxCtx} {v : Byte} {flags : BitVec 24} (hv : b.version = some v) (hb : b.flags = some flags)
    {n : Word} (off first : Word) {l : List (Word × Word × Word × Word)} (hn : n.toNat = l.length) (after : List Byte) :
    Reads (readTrun b)
      (wordBytes n ++ (if flags &&& 0x001 = 0 then [] else wordBytes off) ++ (if flags &&& 0x004 = 0 then [] else wordBytes first) ++
        l.flatMap (trunSampleBytes flags)) after
      { sampleCount := n.toNat, dataOffset := if flags &&& 0x001 = 0 then none else some off.toInt
        samples := l.map (trunSampleOf flags v) } := by
  have hsamples : Reads (readTimes n.toNat (readTrunSample b)) (l.flatMap (trunSampleBytes flags)) after
      (l.map (trunSampleOf flags v)) :=
    hn ▸ Reads.times (readTrunSample_reads hv hb) l after
  simp only [List.append_assoc]
  exact (Reads.u32 n _).bind <| (Reads.flagged hb fun _ => Reads.i32 off _).bind <|
    Reads.skipFlagged hb first <| hsamples.map _

/-! ## Header boxes (42 R181-R184) -/

theorem skip_fits {n : Nat} {r : Reader} (h : r.pos + n ≤ r.stop) : skip n r = .ok ((), { r with pos := r.pos + n }) :=
  if_neg (by omega)

theorem skip_short {n : Nat} {r : Reader} (h : r.stop < r.pos + n) :
    skip n r = .error { space := r.space, pos := r.pos, n := n, reason := .pastEnd } := if_pos h

/-- The times of a header box take 16 bytes in version 1 and 8 in every other. -/
theorem readAfterTimes_eq {b : BoxCtx} {n : Nat} (hn : n = if b.version = some 1 then 16 else 8) :
    readAfterTimes b = (skip n >>= fun _ => readU32) := by
  rw [readAfterTimes, hn]
  simp only [isV1_iff]

theorem readAfterTimes_fits {b : BoxCtx} {n : Nat} (hn : n = if b.version = some 1 then 16 else 8) {r : Reader}
    (h : r.pos + n + 4 ≤ r.stop) :
    readAfterTimes b r =
      .ok (BitVec.ofNat 32 (valueOf r.little (r.mem.slice (r.pos + n) 4)), { r with pos := r.pos + n + 4 }) := by
  have hskip := skip_fits (n := n) (r := r) (by omega)
  have hfield := readU32_fits (r := { r with pos := r.pos + n }) h
  rw [readAfterTimes_eq hn]
  simp [bind, StateT.bind, Except.bind, hskip, hfield]

theorem readAfterTimes_short_times {b : BoxCtx} {n : Nat} (hn : n = if b.version = some 1 then 16 else 8) {r : Reader}
    (h : r.stop < r.pos + n) :
    readAfterTimes b r = .error { space := r.space, pos := r.pos, n := n, reason := .pastEnd } := by
  rw [readAfterTimes_eq hn]
  simp [bind, StateT.bind, Except.bind, skip_short h]

theorem readAfterTimes_short_field {b : BoxCtx} {n : Nat} (hn : n = if b.version = some 1 then 16 else 8) {r : Reader}
    (htimes : r.pos + n ≤ r.stop) (h : r.stop < r.pos + n + 4) :
    readAfterTimes b r = .error { space := r.space, pos := r.pos + n, n := 4, reason := .pastEnd } := by
  have hfield := readU32_short (r := { r with pos := r.pos + n }) h
  rw [readAfterTimes_eq hn]
  simp [bind, StateT.bind, Except.bind, skip_fits htimes, hfield]

/-- Each header box runs the same reader, and one whose read fails ends the segment. -/
theorem exec_headerBox_error {s : State} {e : ReadError} (h : readAfterTimes s.tx.box s.boxReader = .error e) :
    ∀ i ∈ [Instr.boxMvhd, .boxTkhd, .boxMdhd], ∃ t, exec i s = .next t ∧ EndsInBounds s t e := by
  intro i hi
  simp only [List.mem_cons, List.not_mem_nil, or_false] at hi
  rcases hi with rfl | rfl | rfl
  all_goals exact ⟨_, rfl, State.decodeBox_endsInBounds h _⟩

/-- A field of a trak goes to the pairing slot of the enclosing trak (42 R184). -/
theorem State.decodeBox_onPair_inside {α : Type} {s : State} {f : Frame} {r : List Frame} (hf : s.tx.frames = f :: r) {k : Nat}
    {a : Option Word × Option Word} (hk : f.trak = some k) (ha : s.tx.acc.pairs[k]? = some a)
    {p : Rd α} {v : α} {q : Reader} (h : p s.boxReader = .ok (v, q)) (g : α → Option Word × Option Word → Option Word × Option Word) :
    s.decodeBox p (fun x u => u.onAcc (onPair (s.tx.frames.head?.bind (·.trak)) (g x))) =
      { s with
        phase := .boxHeader
        tx := { s.tx with
          acc := { s.tx.acc with pairs := s.tx.acc.pairs.set k (g v a) }, frames := { f with pos := s.tx.box.stop } :: r } } := by
  have htrak : s.tx.frames.head?.bind (·.trak) = some k := by rw [hf]; exact hk
  have hset : s.tx.acc.pairs.modify k (g v) = s.tx.acc.pairs.set k (g v a) := by
    rw [List.modify_eq_set_getElem?, ha]
    rfl
  rw [State.decodeBox_onAcc hf h, htrak, onPair, hset]

/-- Outside every trak the field is not kept (log entry 12). -/
theorem State.decodeBox_onPair_outside {α : Type} {s : State} {f : Frame} {r : List Frame} (hf : s.tx.frames = f :: r)
    (hk : f.trak = none) {p : Rd α} {v : α} {q : Reader} (h : p s.boxReader = .ok (v, q))
    (g : α → Option Word × Option Word → Option Word × Option Word) :
    s.decodeBox p (fun x u => u.onAcc (onPair (s.tx.frames.head?.bind (·.trak)) (g x))) =
      { s with phase := .boxHeader, tx := { s.tx with frames := { f with pos := s.tx.box.stop } :: r } } := by
  have htrak : s.tx.frames.head?.bind (·.trak) = none := by rw [hf]; exact hk
  rw [State.decodeBox_onAcc hf h, htrak, onPair]

/-! ## Decoder-only boxes (42 R204) -/

/-- A decoder-only box writes its struct and nothing else, and the walk goes on at the box's end. -/
theorem State.decodeBox_recordField {α : Type} {s : State} {f : Frame} {r : List Frame} (hf : s.tx.frames = f :: r)
    {p : Rd α} {v : α} {q : Reader} (h : p s.boxReader = .ok (v, q)) (g : α → FieldRecord) :
    s.decodeBox p (fun x u => u.recordField (g x)) =
      { s with
        phase := .boxHeader, fieldOut := s.fieldOut ++ [g v]
        tx := { s.tx with frames := { f with pos := s.tx.box.stop } :: r } } := by
  rw [State.decodeBox_ok h, State.leaveBox_of_frames hf]
  rfl

/-! ## The samples of a fragment (42 R195) -/

theorem fragmentSamples_length (h : Tfhd) (d : Option TrexDefaults) (truns : List Trun) :
    (fragmentSamples h d truns).length = (truns.map (·.sampleCount)).sum := by
  simp [fragmentSamples]

/-- The samples are the listed ones in their order, and past the lists the trun term is absent. -/
theorem fragmentSamples_getElem? {h : Tfhd} {d : Option TrexDefaults} {truns : List Trun} {i : Nat} {x : Sample}
    (hx : (fragmentSamples h d truns)[i]? = some x) :
    x = resolveSample h d ((truns.flatMap (·.samples))[i]?.getD absentSample) := by
  have hi : i < (truns.map (·.sampleCount)).sum := by
    rw [← fragmentSamples_length h d truns]
    exact (List.getElem?_eq_some_iff.mp hx).1
  simp only [fragmentSamples, List.getElem?_map, Option.map_eq_some_iff] at hx
  obtain ⟨y, hy, rfl⟩ := hx
  congr 1
  rw [List.getElem?_append] at hy
  split at hy
  · rw [List.getElem?_take_of_lt hi] at hy
    rw [hy, Option.getD_some]
  next hlisted =>
    have hpast : (truns.flatMap (·.samples)).length ≤ i := by
      rw [List.length_take] at hlisted
      omega
    rw [List.getElem?_eq_none hpast, Option.getD_none]
    exact (List.mem_replicate.mp (List.mem_of_getElem? hy)).2

/-! ## mdat (42 R193, R194, 43 R236, R237) -/

/-- The timing records that an mdat adds: one for a moof with a tfdt that has none yet (42 R194). -/
def newTiming (x : Slots) (ts : Nat) (samples : List Sample) : List TimingRecord :=
  ((if x.timed then none else x.tfdt).map (timingRecord · ts samples)).toList

theorem Tx.recordTiming_eq (t : Tx) (ts : Nat) (samples : List Sample) :
    t.recordTiming ts samples =
      { t with
        timing := t.timing ++ newTiming t.slots ts samples
        slots := { t.slots with timed := t.slots.timed || t.slots.tfdt.isSome } } := by
  rcases t.recordTiming_cases ts samples with ⟨ht, hdone⟩ | ⟨bmdt, hbmdt, htimed, ht⟩
  · have hnew : newTiming t.slots ts samples = [] := by rcases hdone with h | h <;> simp [newTiming, h]
    have hflag : (t.slots.timed || t.slots.tfdt.isSome) = t.slots.timed := by rcases hdone with h | h <;> simp [h]
    rw [ht, hnew, hflag, List.append_nil]
  · have hnew : newTiming t.slots ts samples = [timingRecord bmdt ts samples] := by simp [newTiming, hbmdt, htimed]
    have hflag : (t.slots.timed || t.slots.tfdt.isSome) = true := by simp [hbmdt]
    rw [ht, hnew, hflag]

theorem timingRecord_eq (bmdt ts : Nat) (samples : List Sample) :
    timingRecord bmdt ts samples =
      { decodeTime := ((1000 * bmdt : Nat) : Rat) / (ts : Rat)
        duration := ((1000 * (samples.map (·.dur)).sum : Nat) : Rat) / (ts : Rat) } := by
  simp only [timingRecord, Rat.mkRat_eq_div, Int.cast_mul, Int.cast_ofNat, Int.cast_natCast, Nat.cast_mul, Nat.cast_ofNat]

/-- Nothing is scanned without a sample, or where the data start lies outside the payload (43 R237). -/
theorem State.startWalk_outside {s : State} {moof : Nat} {d : Int} (hd : d = dataStart moof s.tx.slots.truns s.tx.mdat.start)
    {samples : List Sample} (h : samples = [] ∨ d < 0 ∨ s.tx.mdat.length < d) (bmdt ts : Nat) :
    s.startWalk moof bmdt ts samples = s := by
  subst hd
  exact if_pos (h.imp_left List.isEmpty_iff.mpr)

/-- The NAL walk begins at the data start (43 R237). -/
theorem State.startWalk_inside {s : State} {moof : Nat} {d : Int} (hd : d = dataStart moof s.tx.slots.truns s.tx.mdat.start)
    {samples : List Sample} (hne : samples ≠ []) (hlow : 0 ≤ d) (hhigh : d ≤ s.tx.mdat.length) {stop : Nat}
    (hstop : s.tx.mdat.start + s.tx.mdat.length = stop) (bmdt ts : Nat) :
    s.startWalk moof bmdt ts samples =
      { s with
        phase := .nal
        tx := { s.tx with
          walk := { pos := s.tx.mdat.start + d.toNat, stop := stop, rest := samples, time := bmdt, used := 0, ts := ts } } } := by
  subst hd hstop
  refine if_neg ?_
  rintro (hempty | hneg | hbeyond)
  · exact hne (List.isEmpty_iff.mp hempty)
  · omega
  · omega

/-- An mdat before any moof is not scanned (43 R236). -/
theorem State.scanMdat_no_moof {s : State} (h : s.tx.slots.moofStart = none) : s.scanMdat = s := by
  simp only [State.scanMdat, h]

/-- A complete fragment context gives its timing record and starts the walk (43 R236). -/
theorem State.scanMdat_complete {s : State} {moof : Nat} {h : Tfhd} {ts : Word} (hmoof : s.tx.slots.moofStart = some moof)
    (htfhd : s.tx.slots.tfhd = some h) (hts : mapGet h.trackId s.init.timescale = some ts) (hne : ts ≠ 0)
    {samples : List Sample} (hsamples : samples = fragmentSamples h (mapGet h.trackId s.init.trex) s.tx.slots.truns) :
    s.scanMdat =
      State.startWalk
        { s with
          tx := { s.tx with
            timing := s.tx.timing ++ newTiming s.tx.slots ts.toNat samples
            slots := { s.tx.slots with timed := s.tx.slots.timed || s.tx.slots.tfdt.isSome } } }
        moof (s.tx.slots.tfdt.getD 0) ts.toNat samples := by
  subst hsamples
  simp only [State.scanMdat, hmoof, htfhd, hts, if_neg hne, Tx.recordTiming_eq, State.setTx]

theorem exec_boxMdat {s : State} {f : Frame} {r : List Frame} (hf : s.tx.frames = f :: r) :
    exec .boxMdat s = .next (State.scanMdat { s with
      phase := .boxHeader
      tx := { s.tx with
        mdat := { start := s.tx.box.base, length := s.tx.box.stop - s.tx.box.base }
        frames := { f with pos := s.tx.box.stop } :: r } }) := by
  have hleft := State.leaveBox_of_frames (s := { s with
    tx := { s.tx with mdat := { start := s.tx.box.base, length := s.tx.box.stop - s.tx.box.base } } }) hf
  exact congrArg (fun u => Host.Outcome.next (State.scanMdat u)) hleft

end Sys2Proof.Machine

open Sys2Proof Sys2Proof.Machine

/-- Settles O31: the count says how often the sample reader runs, and each run takes the bytes of one sample. -/
theorem trunRecoversItsArrays : Obligations.TrunRecoversItsArrays := by
  intro l b sp v flags off first hl hv hb flagged field
  have hcount : (BitVec.ofNat 32 l.length).toNat = l.length := by
    rw [BitVec.toNat_ofNat, Nat.mod_eq_of_lt hl]
  have htrun := (readTrun_reads hv hb off first hcount []).whole sp
  rw [hcount] at htrun
  exact htrun

/-- Settles O27: the reader of the three boxes skips the times and reads the field, which goes to the slot of the box. -/
theorem headerBoxesReadOneField : Obligations.HeaderBoxesReadOneField := by
  intro s f r skipped hf hskipped field done
  refine ⟨fun hfit => ?_, fun i hi => ⟨fun hshort => ?_, fun htimes hshort => ?_⟩⟩
  · have hread := readAfterTimes_fits hskipped (r := s.boxReader) hfit
    refine ⟨?_, fun k a b hk hpair => ⟨?_, ?_⟩, fun hnone => ⟨?_, ?_⟩⟩
    · exact congrArg Host.Outcome.next (State.decodeBox_onAcc hf hread fun x a => { a with movieTimescale := some x })
    · exact congrArg Host.Outcome.next (State.decodeBox_onPair_inside hf hk hpair hread fun x p => (p.1.or (some x), p.2))
    · exact congrArg Host.Outcome.next (State.decodeBox_onPair_inside hf hk hpair hread fun x p => (p.1, p.2.or (some x)))
    all_goals exact congrArg Host.Outcome.next (State.decodeBox_onPair_outside hf hnone hread _)
  · exact exec_headerBox_error (readAfterTimes_short_times hskipped (r := s.boxReader) hshort) i hi
  · exact exec_headerBox_error (readAfterTimes_short_field hskipped (r := s.boxReader) htimes hshort) i hi

/-- Settles O29: a read that succeeds records its struct and leaves the box, one that fails ends the segment. -/
theorem decoderOnlyBoxesReturnTheirStruct : Obligations.DecoderOnlyBoxesReturnTheirStruct := by
  intro s f r hf
  refine ⟨fun e q h => ?_, fun e q h => ?_, fun x q h => ?_, fun x q h => ?_, fun x q h => ?_, fun x q h => ?_,
    fun e h => ?_, fun e h => ?_, fun e h => ?_, fun e h => ?_, fun e h => ?_, fun e h => ?_⟩
  · exact congrArg Host.Outcome.next (State.decodeBox_recordField hf h .emsg)
  · exact congrArg Host.Outcome.next (State.decodeBox_recordField hf h .emsg)
  · exact congrArg Host.Outcome.next (State.decodeBox_recordField hf h .sidx)
  · exact congrArg Host.Outcome.next (State.decodeBox_recordField hf h .elst)
  · exact congrArg Host.Outcome.next (State.decodeBox_recordField hf h .tenc)
  · exact congrArg Host.Outcome.next (State.decodeBox_recordField hf h .prft)
  all_goals exact ⟨_, rfl, State.decodeBox_endsInBounds h _⟩

/-- Settles O33: the box is left with its payload range, the fragment's samples are resolved, its timing is recorded, and the place
of the data start decides whether the walk begins. -/
theorem mdatStartsWalk : Obligations.MdatStartsWalk := by
  intro s f r hf hrange left
  refine ⟨fun hnone => ?_, ?_⟩
  · exact (exec_boxMdat hf).trans (congrArg Host.Outcome.next (State.scanMdat_no_moof hnone))
  intro moof h ts d hmoof htfhd hts hne hd samples
  refine ⟨fragmentSamples_length .., fun i x hx => ?_, ?_⟩
  · intro trun trex pick
    have hpick (a b c : Option Word) : ((a.or (b.or c)).getD 0).toNat = pick a b c := by
      rcases a with _ | a
      · rcases b with _ | b
        · rcases c with _ | c <;> rfl
        · rfl
      · rfl
    rw [fragmentSamples_getElem? hx]
    exact ⟨hpick .., hpick .., rfl⟩
  · intro timing slots
    have htiming : timing = s.tx.timing ++ newTiming s.tx.slots ts.toNat samples := by
      simp only [timing, newTiming]
      rcases (if s.tx.slots.timed then none else s.tx.slots.tfdt) with _ | bmdt
      · rfl
      · exact congrArg (s.tx.timing ++ [·]) (timingRecord_eq ..).symm
    have hexec : exec .boxMdat s = .next (State.startWalk
        { s with phase := .boxHeader, tx := { left with timing := timing, slots := slots } }
        moof (s.tx.slots.tfdt.getD 0) ts.toNat samples) := by
      rw [htiming]
      exact (exec_boxMdat hf).trans (congrArg Host.Outcome.next
        (State.scanMdat_complete (s := { s with phase := .boxHeader, tx := left }) hmoof htfhd hts hne rfl))
    have hlength : ((s.tx.box.stop - s.tx.box.base : Nat) : Int) = (s.tx.box.stop : Int) - s.tx.box.base := Int.ofNat_sub hrange
    rw [hexec]
    refine ⟨fun hsamples hlow hhigh => congrArg Host.Outcome.next ?_, fun hout => congrArg Host.Outcome.next ?_⟩
    · exact State.startWalk_inside hd hsamples hlow (hhigh.trans_eq hlength.symm) (Nat.add_sub_cancel' hrange) ..
    · exact State.startWalk_outside hd (hout.imp_right (.imp_right hlength.trans_lt)) ..
end

section
/-! SUPPORT. The family of 43_sei_extractor.md: the disable flag (O12), the sorted queues (O19), completion (O20), StructuralErrors
(O22), NAL units (O34), the sample advance (O35), emulation prevention (O36) and cc triples (O38). O12 rests on `step_frame`, what a
step leaves of the state, and on `step_pass`: inside a SUBMIT only the end of the init pass changes the pass. -/

namespace Sys2Proof.Machine

/-! ## The queues (43 R252) -/

theorem insertBy_eq_orderedInsert {α : Type} (le : α → α → Bool) (x : α) (l : List α) :
    insertBy le x l = l.orderedInsert (fun a b => le a b = true) x := by
  induction l with
  | nil => rfl
  | cons y r ih => rw [insertBy, ih, List.orderedInsert_cons]

/-- The queues' sort is the library's insertion sort. -/
theorem sortBy_eq_insertionSort {α : Type} (le : α → α → Bool) (l : List α) :
    sortBy le l = l.insertionSort fun a b => le a b = true := by
  induction l with
  | nil => rfl
  | cons x r ih => rw [sortBy, ih, insertBy_eq_orderedInsert, List.insertionSort_cons]

theorem before_iff {p q : Rat} {i j : Nat} : before p i q j = true ↔ p < q ∨ (p = q ∧ i ≤ j) := by
  simp [before]

theorem before_total (p q : Rat) (i j : Nat) : before p i q j = true ∨ before q j p i = true := by
  simp only [before_iff]
  rcases lt_trichotomy p q with h | h | h
  · exact .inl (.inl h)
  · exact (Nat.le_total i j).imp (fun hij => .inr ⟨h, hij⟩) fun hji => .inr ⟨h.symm, hji⟩
  · exact .inr (.inl h)

theorem before_trans {p q r : Rat} {i j k : Nat} (h : before p i q j = true) (h' : before q j r k = true) :
    before p i r k = true := by
  rw [before_iff] at *
  rcases h with h | ⟨rfl, hij⟩
  · rcases h' with h' | ⟨rfl, -⟩
    · exact .inl (h.trans h')
    · exact .inl h
  · exact h'.imp_right fun ⟨hqr, hjk⟩ => ⟨hqr, hij.trans hjk⟩

/-- A queue sorted by pts and arrival holds the same entries, in the order of the decode step. -/
theorem sortBy_before {α : Type} (pts : α → Rat) (order : α → Nat) (l : List α) :
    (sortBy (fun a b => before (pts a) (order a) (pts b) (order b)) l).Perm l ∧
      (sortBy (fun a b => before (pts a) (order a) (pts b) (order b)) l).Pairwise
        fun a b => pts a < pts b ∨ (pts a = pts b ∧ order a ≤ order b) := by
  rw [sortBy_eq_insertionSort]
  refine ⟨List.perm_insertionSort _ l, ?_⟩
  have htotal : Std.Total fun a b : α => before (pts a) (order a) (pts b) (order b) = true :=
    ⟨fun a b => before_total (pts a) (pts b) (order a) (order b)⟩
  have htrans : IsTrans α fun a b => before (pts a) (order a) (pts b) (order b) = true := ⟨fun _ _ _ => before_trans⟩
  exact (List.pairwise_insertionSort _ l).imp before_iff.mp

theorem step_media_end {s : State} (hp : s.phase = .boxHeader) (hnil : s.tx.frames = []) (hpass : s.tx.pass = .media) :
    step s = .next s.endMedia := by
  rw [step_of_none (step_no_level hp hnil).1]
  simp only [State.control, hp, State.endLevel, hnil, State.endPass, hpass]

/-! ## Completion (43 R254) -/

theorem step_drained {s : State} (hp : s.phase = .dec708) (hq : s.tx.q708 = []) : step s = .next s.complete := by
  rw [step_of_none ((fetchPoint_dec708 hp).1 hq)]
  simp only [State.control, hp]

/-! ## StructuralErrors (43 R236) -/

theorem State.scanMdat_no_tfhd {s : State} {moof : Nat} (hmoof : s.tx.slots.moofStart = some moof)
    (htfhd : s.tx.slots.tfhd = none) : s.scanMdat = s.takeStructural (.structuralError .tfhd none) := by
  simp only [State.scanMdat, hmoof, htfhd]

theorem State.scanMdat_no_timescale {s : State} {moof : Nat} {h : Tfhd} (hmoof : s.tx.slots.moofStart = some moof)
    (htfhd : s.tx.slots.tfhd = some h)
    (hts : mapGet h.trackId s.init.timescale = none ∨ mapGet h.trackId s.init.timescale = some 0) :
    s.scanMdat = s.takeStructural (.structuralError .timescale (some h.trackId)) := by
  rcases hts with hts | hts
  · simp only [State.scanMdat, hmoof, htfhd, hts]
  · simp only [State.scanMdat, hmoof, htfhd, hts, if_true]

/-- An mdat whose fragment context is a StructuralError ends the transaction abnormally (60 R473). The context is that of the slots
and of S.init, which leaving the box does not write. -/
theorem exec_boxMdat_structural {s : State} {e : Event}
    (h : ∀ u : State, u.tx.slots = s.tx.slots → u.init = s.init → u.scanMdat = u.takeStructural e) :
    ∃ t, exec .boxMdat s = .next t ∧ LeftAsFound s t ∧ t.phase = .idle ∧
      t.outbox = s.outbox ++ [{ cues := [], timing := [], events := s.tx.events ++ [e], abnormal := true }] :=
  ⟨_, congrArg Host.Outcome.next (h _ rfl rfl), ⟨rfl, rfl, rfl, rfl, rfl⟩, rfl, rfl⟩

/-! ## NAL units (43 R238-R245) -/

theorem NalWalk.pts_eq (w : NalWalk) :
    w.pts = (((w.time : Int) + (w.rest.head?.map (·.cto)).getD 0 : Int) : Rat) / (w.ts : Rat) := Rat.mkRat_eq_div ..

/-- An SEI NAL fills NALBUF and starts the message loop, and the walk passes it (43 R238, R243, R245). -/
theorem State.seiNal_eq (s : State) (c : Codec) (len : Word) :
    s.seiNal c len =
      { s with
        phase := .sei
        tx := { s.tx with
          walk := s.tx.walk.passNal len.toNat
          sei := { s.tx.sei with
            nalbuf := Memory.ofBytes (epbRemove 0
              (s.tx.mediaSpace.slice (s.tx.walk.pos + 4 + c.headerLen) (len.toNat - c.headerLen)))
            pos := 0
            pts := (((s.tx.walk.time : Int) + (s.tx.walk.rest.head?.map (·.cto)).getD 0 : Int) : Rat) / (s.tx.walk.ts : Rat) } } } := by
  rw [← NalWalk.pts_eq]
  rfl

/-! ## The sample advance (43 R242) -/

theorem crossSamples_reached {x : Sample} {used : Nat} (h : x.size ≤ used) (r : List Sample) (time : Nat) :
    crossSamples (x :: r) used time = crossSamples r (used - x.size) (time + x.dur) := if_pos h

theorem crossSamples_short {x : Sample} {used : Nat} (h : used < x.size) (r : List Sample) (time : Nat) :
    crossSamples (x :: r) used time = (x :: r, used, time) := if_neg (Nat.not_le.mpr h)

/-! ## Emulation prevention (43 R244) -/

/-- The count of zeros after `EPBRemove` has kept all of `p`, from a count of `z` before it. -/
def zerosAfter (z : Nat) (p : List Byte) : Nat := p.foldl (fun z b => if b = 0x00#8 then z + 1 else 0) z

theorem zerosAfter_cons (z : Nat) (b : Byte) (r : List Byte) :
    zerosAfter z (b :: r) = zerosAfter (if b = 0x00#8 then z + 1 else 0) r := rfl

theorem two_le_zerosAfter (a : List Byte) : 2 ≤ zerosAfter 0 (a ++ [0x00, 0x00]) := by
  simp [zerosAfter]

theorem epbRemove_dropped {z : Nat} (h : 2 ≤ z) (r : List Byte) : epbRemove z (0x03#8 :: r) = epbRemove 0 r :=
  if_pos ⟨h, rfl⟩

theorem epbRemove_kept {z : Nat} {b : Byte} (h : ¬ (2 ≤ z ∧ b = 0x03#8)) (r : List Byte) :
    epbRemove z (b :: r) = b :: epbRemove (if b = 0x00#8 then z + 1 else 0) r := if_neg h

/-- After two or more zeros a 03 completes the emulation prevention pattern. -/
theorem pattern_isInfix_of_zeros {z : Nat} (h : 2 ≤ z) (r : List Byte) :
    [0x00, 0x00, 0x03] <:+: List.replicate z 0x00#8 ++ 0x03#8 :: r := by
  obtain ⟨k, rfl⟩ := Nat.exists_eq_add_of_le' h
  refine ⟨List.replicate k 0x00#8, r, ?_⟩
  simp [List.replicate_add]

/-- `EPBRemove` keeps all of `p` where no pattern lies in it and the `z` zeros before it, and goes on behind it with the zeros
counted. -/
theorem epbRemove_append {z : Nat} {p : List Byte} (h : ¬ [0x00, 0x00, 0x03] <:+: List.replicate z 0x00#8 ++ p) (q : List Byte) :
    epbRemove z (p ++ q) = p ++ epbRemove (zerosAfter z p) q := by
  induction p generalizing z with
  | nil => rfl
  | cons b r ih =>
    have hkept : ¬ (2 ≤ z ∧ b = 0x03#8) := by
      rintro ⟨hz, rfl⟩
      exact h (pattern_isInfix_of_zeros hz r)
    rw [List.cons_append, epbRemove_kept hkept, zerosAfter_cons, ih, List.cons_append]
    intro hr
    by_cases hb : b = 0x00#8
    · subst hb
      rw [if_pos rfl, List.replicate_succ', List.append_assoc] at hr
      exact h hr
    · rw [if_neg hb] at hr
      exact h (hr.trans ((List.suffix_cons b r).trans (List.suffix_append _ _)).isInfix)

/-! ## The pass goes on -/

/-- `t` is idle or in the box pass of `s`: only the end of a pass and the start of a SUBMIT write the pass. -/
def PassKept (s t : State) : Prop := t.phase = .idle ∨ t.tx.pass = s.tx.pass

theorem PassKept.refl (s : State) : PassKept s s := .inr rfl

theorem State.decodeBox_passKept {α : Type} (s : State) (p : Rd α) (k : α → State → State)
    (hk : ∀ v u, (k v u).tx.pass = u.tx.pass) : PassKept s (s.decodeBox p k) := by
  rcases s.decodeBox_cases p k with ⟨e, -, h⟩ | ⟨v, r, -, h⟩ <;> rw [h]
  · exact .inl rfl
  · exact .inr (hk v _)

theorem State.openBox_passKept (s : State) (size : Nat) (type : Fourcc) : PassKept s (s.openBox size type) := by
  cases hf : s.tx.frames with
  | nil =>
    have h : s.openBox size type = s := by simp only [State.openBox, hf]
    rw [h]
    exact .refl s
  | cons f r => rcases s.openBox_cases size type f r hf with ⟨-, h⟩ | ⟨-, h⟩ <;> rw [h] <;> exact .inr rfl

theorem Tx.recordTiming_pass (t : Tx) (ts : Nat) (samples : List Sample) : (t.recordTiming ts samples).pass = t.pass := by
  rw [Tx.recordTiming_eq]

theorem State.startWalk_pass (s : State) (moof bmdt ts : Nat) (samples : List Sample) :
    (s.startWalk moof bmdt ts samples).tx.pass = s.tx.pass := by
  rcases s.startWalk_cases moof bmdt ts samples with h | ⟨d, -, -, -, h⟩ <;> rw [h]

theorem State.scanMdat_passKept (s : State) : PassKept s s.scanMdat := by
  unfold State.scanMdat
  split
  · exact .refl s
  · split
    · exact .inl rfl
    · split
      · exact .inl rfl
      · split
        · exact .inl rfl
        · exact .inr ((State.startWalk_pass ..).trans (s.tx.recordTiming_pass ..))

theorem exec_box_passKept {i : Instr} (hi : i.stage = .boxHeader ∨ i.stage = .boxDispatch) (s : State) :
    ∃ t, exec i s = .next t ∧ PassKept s t := by
  cases i with
  | boxSizeLiteral | boxSizeRest => exact ⟨_, rfl, s.openBox_passKept ..⟩
  | boxLargesize type large =>
    show ∃ t, execBoxLargesize type large s = .next t ∧ _
    unfold execBoxLargesize
    split
    · exact ⟨_, rfl, .inl rfl⟩
    · exact ⟨_, rfl, s.openBox_passKept ..⟩
  | boxFullVf | boxUnregistered | boxMoov | boxTrak | boxMdia | boxMinf | boxStbl | boxMvex | boxSinf | boxMoof | boxTraf =>
    exact ⟨_, rfl, .inr rfl⟩
  | boxAvc1 | boxAvc3 | boxHvc1 | boxHev1 | boxEncv => exact ⟨_, rfl, State.decodeBox_passKept _ _ _ fun _ _ => rfl⟩
  | boxStsd | boxFrma | boxMvhd | boxTkhd | boxMdhd | boxTrex | boxTfhd | boxTfdt | boxTrun | boxEmsg | boxEmsgV1 | boxSidx
  | boxElst | boxTenc | boxPrft => exact ⟨_, rfl, s.decodeBox_passKept _ _ fun _ _ => rfl⟩
  | boxMdat => exact ⟨_, rfl, State.scanMdat_passKept (State.leaveBox _)⟩
  | _ => rcases hi with hi | hi <;> cases hi

theorem exec_stream_passKept {i : Instr} (hi : i.stage ∈ [Phase.nal, .sei, .t35, .cc]) (s : State) :
    ∃ t, exec i s = .next t ∧ PassKept s t := by
  cases i with
  | nalH264Sei | nalH265SeiPre | nalH265SeiSuf | nalH264Other | nalH265Other | nalShort | seiT35 | seiOther | t35Rejected
  | ccInvalid => exact ⟨_, rfl, .inr rfl⟩
  | t35AtscCc ign7 ign5 count =>
    show ∃ t, execT35AtscCc ign7 ign5 count s = .next t ∧ _
    unfold execT35AtscCc
    split
    · exact ⟨_, rfl, .inl rfl⟩
    · exact ⟨_, rfl, .inr rfl⟩
  | cc608F0 | cc608F1 =>
    refine ⟨_, rfl, .inr ?_⟩
    rcases s.queue608_cases _ _ _ with ⟨-, h⟩ | ⟨-, h⟩ <;> rw [h]
  | ccDtvccData | ccDtvccStart =>
    refine ⟨_, rfl, .inr ?_⟩
    rcases s.queue708_cases _ _ _ with ⟨-, h⟩ | ⟨-, h⟩ <;> rw [h]
  | _ => exact absurd hi (by simp [Instr.stage, langOf, Lang.stage])

theorem exec_packet_passKept {i : Instr} (hi : i.stage = .dec708 ∨ i.stage = .svc) (s : State) :
    ∃ t, exec i s = .next t ∧ PassKept s t := by
  cases i with
  | dtvccPacketStart seq code => exact ⟨_, execDtvccPacketStart_eq seq code s, .inr rfl⟩
  | dtvccData value =>
    show ∃ t, execDtvccData value s = .next t ∧ _
    simp only [execDtvccData]
    split
    · split <;> exact ⟨_, rfl, .inr rfl⟩
    · exact ⟨_, rfl, .inr rfl⟩
  | svcExtended size ign svc =>
    show ∃ t, execSvcExtended size ign svc s = .next t ∧ _
    unfold execSvcExtended
    split <;> exact ⟨_, rfl, .inr rfl⟩
  | svcHeader | svcNullOrEmpty => exact ⟨_, rfl, .inr rfl⟩
  | _ => rcases hi with hi | hi <;> cases hi

/-- The instruction at the cursor ends the transaction or goes on in its pass. -/
theorem exec_passKept {i : Instr} {s : State} (hi : i.stage = s.phase) : ∃ t, exec i s = .next t ∧ PassKept s t := by
  cases hp : s.phase <;> rw [hp] at hi
  case idle => exact absurd hi (Lang.stage_ne_idle _)
  case boxHeader | boxDispatch => exact exec_box_passKept (by simp [hi]) s
  case nal | sei | t35 | cc => exact exec_stream_passKept (by simp [hi]) s
  case dec608 =>
    refine (exec_pair_same608 hi s).imp fun t => .imp_right fun h => ?_
    rw [h]
    exact .inr rfl
  case dec708 | svc => exact exec_packet_passKept (by simp [hi]) s
  case cmd =>
    refine (exec_code_sameButCode hi s).imp fun t => .imp_right fun h => ?_
    rw [h]
    exact .inr rfl

theorem State.advance_pass (s : State) (n : Nat) : (s.advance n).tx.pass = s.tx.pass := by
  unfold State.advance
  cases s.phase <;> dsimp only
  case boxHeader => unfold Tx.passHeader; split <;> rfl
  case boxDispatch => exact s.tx.passBox_pass n
  case dec608 => unfold Tx.pass608; split <;> rfl
  case dec708 => unfold Tx.pass708; split <;> rfl
  all_goals rfl

theorem State.reject_passKept (s : State) (e : DecodeError) : PassKept s (s.reject e) := by
  unfold State.reject
  cases s.phase
  case boxHeader | boxDispatch | t35 | cc | dec708 => exact .inl rfl
  all_goals exact .inr rfl

theorem State.control_passKept {s : State} (hidle : s.phase ≠ .idle) (hpass : ¬ (s.phase = .boxHeader ∧ s.tx.frames = [])) :
    PassKept s s.control := by
  unfold State.control
  cases hp : s.phase
  case idle => exact absurd hp hidle
  case boxHeader =>
    simp only [State.endLevel]
    split
    · next hnil => exact absurd ⟨hp, hnil⟩ hpass
    · exact .inr rfl
  case dec708 => exact .inl rfl
  all_goals exact .inr rfl

/-- A step inside a SUBMIT ends a pass, ends the transaction, or goes on in its pass. -/
theorem step_pass {s t : State} (h : step s = .next t) (hp : s.phase ≠ .idle) : t = s.endPass ∨ PassKept s t := by
  rcases step_inv h with ⟨-, rfl⟩ | ⟨l, bs, e, -, -, rfl⟩ | ⟨l, bs, i, n, -, -, hi, hx⟩
  · by_cases hend : s.phase = .boxHeader ∧ s.tx.frames = []
    · exact .inl (by simp only [State.control, hend.1, State.endLevel, hend.2])
    · exact .inr (State.control_passKept hp hend)
  · exact .inr (s.reject_passKept e)
  · obtain ⟨u, hu, hkept⟩ := exec_passKept (hi.trans (s.advance_phase n).symm)
    cases hu.symm.trans hx
    exact .inr (hkept.imp_right fun hpass => hpass.trans (s.advance_pass n))

/-! ## The disable flag (43 R233, R234) -/

theorem InitCtx.reset_agrees : InitCtx.reset.Agrees false := ⟨by decide, by decide⟩

/-- A completed init pass has a bitstream, and the flag follows it. -/
theorem initContext_agrees (space : Memory) (a : InitAcc) :
    (initContext space a).Agrees (disabledBy (initContext space a).bitstream) := by
  rcases hc : a.codec with _ | _ | _
  all_goals exact ⟨by simp [initContext, hc, bitstreamOf, disabledBy], by simp [initContext, hc, bitstreamOf]⟩

/-- A parsed init context that does not disable extraction has a known bitstream. -/
theorem InitCtx.Agrees.codec_isSome {x : InitCtx} {disabled : Bool} (h : x.Agrees disabled) {m : Memory} (hx : x.parsed = some m)
    (hd : disabled = false) : x.bitstream.codec.isSome = true := by
  cases hb : x.bitstream
  case none => exact absurd (hx.symm.trans (h.parsed.mpr hb)) nofun
  case unknown => exact absurd (hd.symm.trans (h.disabled.mpr hb)) nofun
  all_goals rfl

theorem State.finish_invInit {s : State} (h : s.init.Agrees s.disabled) (a : Bool) : (s.finish a).InvInit :=
  ⟨h, InitCtx.reset_agrees, fun hp => absurd rfl hp⟩

theorem State.startPass_invInit {s : State} (hnow : s.init.Agrees s.disabled) (hfound : s.tx.found.init.Agrees s.tx.found.disabled)
    {p : Pass} (hmedia : p = .media → s.init.bitstream.codec.isSome = true) : (s.startPass p).InvInit :=
  ⟨hnow, hfound, fun _ => hmedia⟩

/-- Steps 2 to 5 of 43 R230: the media pass starts behind a parsed init context and with the flag lowered only. -/
theorem State.checkSegment_invInit {s : State} (hnow : s.init.Agrees s.disabled)
    (hfound : s.tx.found.init.Agrees s.tx.found.disabled) : s.checkSegment.InvInit := by
  by_cases hseen : s.tx.segId ∈ s.dedup.seen
  · rw [State.checkSegment_seen hseen]
    exact State.finish_invInit (s := s.logEvent _) hnow false
  · by_cases hparsed : s.init.parsed = some s.tx.initSpace
    · rw [State.checkSegment_parsed hseen hparsed]
      cases hdis : s.disabled
      · rw [State.checkDisabled_enabled hdis]
        exact State.startPass_invInit hnow hfound fun _ => hnow.codec_isSome hparsed hdis
      · rw [State.checkDisabled_disabled hdis]
        exact State.finish_invInit (s := s.logEvent _) hnow false
    · rw [State.checkSegment_unparsed hseen hparsed]
      exact State.startPass_invInit hnow hfound nofun

theorem State.checkPeriod_agrees {s : State} (h : s.init.Agrees s.disabled) (per : Str) :
    (s.checkPeriod per).init.Agrees (s.checkPeriod per).disabled := by
  rcases s.checkPeriod_cases per with ⟨-, hs⟩ | hs <;> rw [hs]
  · exact h
  · exact InitCtx.reset_agrees

theorem State.InvInit.nextTransaction {s : State} (h : s.InvInit) (hp : s.phase = .idle) : s.nextTransaction.InvInit := by
  rcases s.nextTransaction_cases with hs | ⟨r, hs⟩ | ⟨init, media, seg, per, r, hs⟩ <;> rw [hs]
  · exact h
  · exact ⟨InitCtx.reset_agrees, h.found, fun hne => absurd hp hne⟩
  · have hnow := State.checkPeriod_agrees (s := s.setInbox r) h.now per
    exact State.checkSegment_invInit hnow hnow

/-- The end of the init pass sets the flag by the codec, and the media pass follows where there is one. -/
theorem State.InvInit.endPass {s : State} (h : s.InvInit) (hp : s.phase ≠ .idle) : s.endPass.InvInit := by
  unfold State.endPass
  cases hpass : s.tx.pass <;> dsimp only
  case init =>
    have hnow : s.withParsedInit.init.Agrees s.withParsedInit.disabled := initContext_agrees s.tx.initSpace s.tx.acc
    rw [State.endInit_eq]
    cases hdis : s.withParsedInit.disabled
    · rw [State.checkDisabled_enabled hdis]
      exact State.startPass_invInit hnow h.found fun _ => hnow.codec_isSome rfl hdis
    · rw [State.checkDisabled_disabled hdis]
      exact State.finish_invInit (s := s.withParsedInit.logEvent _) hnow false
  case media => exact ⟨h.now, h.found, fun _ => h.media hp⟩
  case fields => exact State.finish_invInit h.now false

theorem State.InvInit.complete {s : State} (h : s.InvInit) : s.complete.InvInit :=
  ⟨h.now, InitCtx.reset_agrees, fun hp => absurd rfl hp⟩

/-- Inside a pass S.init and the flag are kept, or put back by a failure. -/
theorem State.InvInit.of_frame {s t : State} (h : s.InvInit) (hp : s.phase ≠ .idle) (hf : StepFrame s t) (hpass : PassKept s t) :
    t.InvInit := by
  rcases hf.submit with hk | ⟨-, hk⟩
  · refine ⟨hk.init ▸ hk.disabled ▸ h.now, hk.found ▸ h.found, fun hne hmedia => ?_⟩
    rw [hk.init]
    exact h.media hp ((hpass.resolve_left hne).symm.trans hmedia)
  · exact ⟨hk.left.init ▸ hk.left.disabled ▸ h.found, hk.tx ▸ InitCtx.reset_agrees, fun hne => absurd hk.phase hne⟩

end Sys2Proof.Machine

open Sys2Proof Sys2Proof.Machine

/-- Settles O12: a pass that ends or a new SUBMIT makes the flag and the bitstream agree, and every other step keeps them or puts back
those of the SUBMIT's start. -/
theorem disableFlagFollowsBitstream : Obligations.DisableFlagFollowsBitstream := by
  intro s t h hstep
  by_cases hidle : s.phase = .idle
  · exact step_idle hstep hidle ▸ h.nextTransaction hidle
  · rcases step_pass hstep hidle with rfl | hpass
    · exact h.endPass hidle
    · rcases step_frame hstep hidle with hf | ⟨-, -, rfl⟩ | ⟨-, rfl⟩
      · exact h.of_frame hidle hf hpass
      · exact h.endPass hidle
      · exact h.complete

/-- Settles O19: the end of the media pass sorts both queues by insertion in a total order. -/
theorem queuesAreSorted : Obligations.QueuesAreSorted := by
  intro s hp hnil hpass
  obtain ⟨hperm608, hsorted608⟩ := sortBy_before Pkt608.pts Pkt608.order s.tx.q608
  obtain ⟨hperm708, hsorted708⟩ := sortBy_before Byte708.pts Byte708.order s.tx.q708
  exact ⟨_, step_media_end hp hnil hpass, rfl, hperm608, hsorted608, hperm708, hsorted708⟩

/-- Settles O35, by induction on the samples that are left. -/
theorem samplesAdvanceBySize : Obligations.SamplesAdvanceBySize := by
  intro rest
  induction rest with
  | nil => exact fun used time => ⟨[], rfl, (Nat.zero_add used).symm, rfl, nofun⟩
  | cons x r ih =>
    intro used time
    by_cases h : x.size ≤ used
    · rw [crossSamples_reached h]
      obtain ⟨crossed, hrest, hused, htime, hstop⟩ := ih (used - x.size) (time + x.dur)
      refine ⟨x :: crossed, congrArg (x :: ·) hrest, ?_, ?_, hstop⟩
      · rw [List.map_cons, List.sum_cons]
        omega
      · rw [List.map_cons, List.sum_cons, htime, Nat.add_assoc]
    · rw [crossSamples_short (Nat.lt_of_not_le h)]
      refine ⟨[], rfl, (Nat.zero_add used).symm, rfl, fun y r' hy => ?_⟩
      cases hy
      exact Nat.lt_of_not_le h

/-- Settles O36: bytes without the pattern are kept (`epbRemove_append`), and after two zeros a 03 is dropped. -/
theorem emulationPreventionIsRemoved : Obligations.EmulationPreventionIsRemoved := by
  refine ⟨fun p hp => ?_, fun a b hab => ?_⟩
  · have hkept := epbRemove_append (z := 0) hp []
    rwa [List.append_nil, epbRemove, List.append_nil] at hkept
  · calc epbRemove 0 (a ++ [0x00, 0x00, 0x03] ++ b)
        = epbRemove 0 (a ++ [0x00, 0x00] ++ 0x03#8 :: b) := by simp
      _ = a ++ [0x00, 0x00] ++ epbRemove (zerosAfter 0 (a ++ [0x00, 0x00])) (0x03#8 :: b) := epbRemove_append (z := 0) hab _
      _ = a ++ [0x00, 0x00] ++ epbRemove 0 b := by rw [epbRemove_dropped (two_le_zerosAfter a)]

/-- Settles O20: completion adds the segment to the dedup set and ends the transaction. -/
theorem completionRecordsSegment : Obligations.CompletionRecordsSegment := by
  intro s hp hq
  exact ⟨_, step_drained hp hq, rfl, rfl, rfl, rfl, rfl, rfl, fun x => mem_setAdd s.tx.segId x s.dedup.seen, rfl⟩

/-- Settles O22: an mdat without a tfhd or a timescale takes the StructuralError of its fragment context. -/
theorem structuralErrorPropagates : Obligations.StructuralErrorPropagates := by
  refine ⟨fun _ _ _ _ _ _ _ _ _ _ _ => rfl, fun s moof hmoof => ⟨fun htfhd => ?_, fun h htfhd hts => ?_⟩⟩
  · exact exec_boxMdat_structural fun u hslots _ => State.scanMdat_no_tfhd (hslots ▸ hmoof) (hslots ▸ htfhd)
  · exact exec_boxMdat_structural fun u hslots hinit =>
      State.scanMdat_no_timescale (hslots ▸ hmoof) (hslots ▸ htfhd) (hinit ▸ hts)

/-- Settles O34: the three SEI classes run the same operation with their header lengths, the others pass the NAL only. -/
theorem nalsAreScannedOrSkipped : Obligations.NalsAreScannedOrSkipped := by
  intro s len ign b7 b0 w pts crossed passed
  refine ⟨fun p hp => ?_, fun h i hi => ?_⟩
  · simp only [List.mem_cons, List.not_mem_nil, or_false] at hp
    rcases hp with rfl | rfl | rfl
    · exact congrArg Host.Outcome.next (s.seiNal_eq .h264 len)
    · exact congrArg Host.Outcome.next (s.seiNal_eq .h265 len)
    · exact congrArg Host.Outcome.next (s.seiNal_eq .h265 len)
  · simp only [List.mem_cons, List.not_mem_nil, or_false] at hi
    rcases hi with rfl | rfl | rfl <;> rfl

/-- Settles O38, from what queueing a pair or two bytes does under each scheme. -/
theorem triplesAreQueuedByScheme : Obligations.TriplesAreQueuedByScheme := by
  intro s ign d1 d2
  refine ⟨fun hc => ?_, fun hc => ?_, fun _ => rfl⟩
  · have hqueued (field : BitVec 1) := (s.queue608_cases field d1 d2).resolve_left (by simp [hc])
    have hdiscarded (start : Bool) := (s.queue708_cases start d1 d2).resolve_right (by simp [hc])
    simp only [List.forall_mem_cons]
    exact ⟨⟨congrArg Host.Outcome.next (hqueued 0).2, congrArg Host.Outcome.next (hqueued 1).2, nofun⟩,
      congrArg Host.Outcome.next (hdiscarded false).2, congrArg Host.Outcome.next (hdiscarded true).2, nofun⟩
  · have hqueued (start : Bool) := (s.queue708_cases start d1 d2).resolve_left (by simp [hc])
    have hdiscarded (field : BitVec 1) := (s.queue608_cases field d1 d2).resolve_right (by simp [hc])
    simp only [List.forall_mem_cons]
    exact ⟨⟨congrArg Host.Outcome.next (hqueued false).2, congrArg Host.Outcome.next (hqueued true).2, nofun⟩,
      congrArg Host.Outcome.next (hdiscarded 0).2, congrArg Host.Outcome.next (hdiscarded 1).2, nofun⟩
end

section
/-! SUPPORT. The family of 44_cea608.md (O39 to O46): what each pair of a 608 queue does. First the pair that a code is remembered
by, then the memory operations in the terms of Safety.lean; a code's result is then `control608_result` at its effect. -/

namespace Sys2Proof.Machine

/-! ## The remembered pair (44 R286) -/

/-- The parity-stripped pair as a number: `0x10` or `0x18`, the low bits of the first byte, the second byte. -/
theorem controlPair_eq_ofNat {chan : BitVec 1} {low : BitVec 3} {b2 : BitVec 7} {n : Nat}
    (h : 0x1000 + 0x800 * chan.toNat + 0x100 * low.toNat + b2.toNat = n) : controlPair chan low b2 = BitVec.ofNat 16 n := by
  refine BitVec.eq_of_toNat_eq ?_
  simp only [controlPair, pairOf, ctlByte, toNat_append_eq, BitVec.toNat_ofNat]
  omega

theorem controlPair_pac (chan : BitVec 1) (idx attr : BitVec 4) (ul : BitVec 1) :
    controlPair chan (idx.extractLsb' 1 3) (pacB2 idx attr ul) = BitVec.ofNat 16
      (0x1040 + 0x800 * chan.toNat + 0x100 * (idx.toNat / 2) + 0x20 * (idx.toNat % 2) + 2 * attr.toNat + ul.toNat) := by
  refine controlPair_eq_ofNat ?_
  simp only [pacB2, toNat_append_eq, BitVec.extractLsb'_toNat, BitVec.toNat_ofNat, Nat.shiftRight_eq_div_pow]
  omega

theorem controlPair_midrow (chan : BitVec 1) (attr : BitVec 3) (ul : BitVec 1) :
    controlPair chan 1#3 (2#3 ++ attr ++ ul) = BitVec.ofNat 16 (0x1120 + 0x800 * chan.toNat + 2 * attr.toNat + ul.toNat) :=
  controlPair_eq_ofNat (by simp only [toNat_append_eq, BitVec.toNat_ofNat]; omega)

theorem controlPair_bg (chan : BitVec 1) (low : BitVec 4) :
    controlPair chan 0#3 (2#3 ++ low) = BitVec.ofNat 16 (0x1020 + 0x800 * chan.toNat + low.toNat) :=
  controlPair_eq_ofNat (by simp only [toNat_append_eq, BitVec.toNat_ofNat]; omega)

theorem controlPair_bgBlack (chan : BitVec 1) : controlPair chan 7#3 0x2D#7 = BitVec.ofNat 16 (0x172D + 0x800 * chan.toNat) :=
  controlPair_eq_ofNat (by simp only [BitVec.toNat_ofNat]; omega)

theorem controlPair_special (chan : BitVec 1) (idx : BitVec 4) :
    controlPair chan 1#3 (3#3 ++ idx) = BitVec.ofNat 16 (0x1130 + 0x800 * chan.toNat + idx.toNat) :=
  controlPair_eq_ofNat (by simp only [toNat_append_eq, BitVec.toNat_ofNat]; omega)

theorem controlPair_extended (chan table : BitVec 1) (idx : BitVec 5) : controlPair chan (1#2 ++ table) (1#2 ++ idx) =
    BitVec.ofNat 16 (0x1220 + 0x800 * chan.toNat + 0x100 * table.toNat + idx.toNat) :=
  controlPair_eq_ofNat (by simp only [toNat_append_eq, BitVec.toNat_ofNat]; omega)

/-! ## Rows -/

theorem typed_nil (cfg : Params) (style : Style608) (row : List Cell608) : typed cfg style row [] = row := by
  unfold typed
  cases cfg.rowCapacity608 <;> simp

/-- Glyphs typed one after the other: the room that is left shrinks by those that found a place. -/
theorem typed_typed (cfg : Params) (style : Style608) (row : List Cell608) (gs hs : List Str) :
    typed cfg style (typed cfg style row gs) hs = typed cfg style row (gs ++ hs) := by
  unfold typed
  cases cfg.rowCapacity608 with
  | none => simp
  | some n =>
    have hroom : n - (row.length + min (n - row.length) gs.length) = n - row.length - gs.length := by omega
    simp [List.take_append, hroom]

/-- One more glyph, if there is room (44 R296). -/
theorem typed_singleton (cfg : Params) (style : Style608) (row : List Cell608) (g : Str) :
    typed cfg style row [g] = if rowHasRoom cfg row then row ++ [{ glyph := g, style := style }] else row := by
  unfold typed rowHasRoom
  cases cfg.rowCapacity608 with
  | none => rfl
  | some n =>
    by_cases hroom : row.length < n
    · obtain ⟨k, hk⟩ := Nat.exists_eq_succ_of_ne_zero (Nat.sub_ne_zero_of_lt hroom)
      simp [hroom, hk]
    · simp [hroom, Nat.sub_eq_zero_of_le (Nat.le_of_not_lt hroom)]

/-! ## Memories -/

/-- The row that was written is the current one. -/
theorem Mem608.withRow_current (m : Mem608) (row : List Cell608) : (m.withRow row).rows[(m.withRow row).row] = row := by
  simp [Mem608.withRow]

theorem Mem608.withRow_withRow (m : Mem608) (r r' : List Cell608) : (m.withRow r).withRow r' = m.withRow r' := by
  simp [Mem608.withRow]

theorem Mem608.withRow_style (m : Mem608) (row : List Cell608) : (m.withRow row).style = m.style := rfl

theorem Mem608.withRow_self (m : Mem608) : m.withRow m.rows[m.row] = m := by
  simp [Mem608.withRow]

/-- Appending a glyph types it at the end of the current row. -/
theorem Mem608.append_eq (cfg : Params) (m : Mem608) (g : Str) :
    m.append cfg g = m.withRow (typed cfg m.style m.rows[m.row] [g]) := by
  rw [typed_singleton, Mem608.append]
  split
  · rfl
  · exact m.withRow_self.symm

theorem Mem608.removeLast_eq (m : Mem608) : m.removeLast = m.withRow m.rows[m.row].dropLast := rfl

/-- Removing the last cell and appending a glyph replaces that cell. -/
theorem Mem608.removeLast_append (cfg : Params) (m : Mem608) (g : Str) :
    m.removeLast.append cfg g = m.withRow (typed cfg m.style m.rows[m.row].dropLast [g]) := by
  rw [Mem608.append_eq, Mem608.removeLast_eq, Mem608.withRow_current, Mem608.withRow_withRow, Mem608.withRow_style]

/-- The glyphs of basic bytes: those of the bytes from 0x20 on (44 R295). -/
def basicGlyphs (cfg : Params) (bs : List (BitVec 7)) : List Str :=
  (bs.filter fun b => decide (0x20 ≤ b.toNat)).map fun b => (cfg.basicRemap.lookup b.toNat).getD [Char.ofNat b.toNat]

theorem basicGlyphs_singleton (cfg : Params) (b : BitVec 7) : basicGlyphs cfg [b] = (basicGlyph cfg b).toList := by
  unfold basicGlyphs basicGlyph
  by_cases hb : b.toNat < 0x20
  · simp [hb]
  · simp [hb, Nat.le_of_not_lt hb]

theorem basicGlyphs_append (cfg : Params) (bs bs' : List (BitVec 7)) :
    basicGlyphs cfg (bs ++ bs') = basicGlyphs cfg bs ++ basicGlyphs cfg bs' := by
  rw [basicGlyphs, List.filter_append, List.map_append, basicGlyphs, basicGlyphs]

/-- A basic byte types its glyph, where it has one. -/
theorem appendBasic_eq (cfg : Params) (b : BitVec 7) (m : Mem608) :
    appendBasic cfg b m = m.withRow (typed cfg m.style m.rows[m.row] (basicGlyphs cfg [b])) := by
  rw [basicGlyphs_singleton]
  unfold appendBasic
  split
  · next g hg => rw [hg, Option.toList_some, Mem608.append_eq]
  · next hg => rw [hg, Option.toList_none, typed_nil, Mem608.withRow_self]

theorem appendBasic_appendBasic (cfg : Params) (b1 b2 : BitVec 7) (m : Mem608) :
    appendBasic cfg b2 (appendBasic cfg b1 m) =
      m.withRow (typed cfg m.style m.rows[m.row] (basicGlyphs cfg [b1, b2])) := by
  rw [appendBasic_eq cfg b2, appendBasic_eq cfg b1, Mem608.withRow_current, Mem608.withRow_withRow, Mem608.withRow_style,
    typed_typed, ← basicGlyphs_append, List.singleton_append]

/-! ## The roll-up window (44 R288, R309) -/

/-- Row `a - b` of a memory; there is none above the first row or below the last. -/
theorem rowAt_sub (rows : Vector (List Cell608) 16) (a b : Nat) :
    rowAt rows ((a : Int) - b) = if b ≤ a then rows[a - b]?.getD [] else [] := by
  unfold rowAt
  by_cases hab : b ≤ a
  · rw [if_pos hab, ← Int.ofNat_sub hab, Int.toNat_natCast]
    by_cases hlt : a - b < 16
    · exact if_pos ⟨Int.natCast_nonneg _, Int.ofNat_lt.mpr hlt⟩
    · rw [if_neg fun h => hlt (Int.ofNat_lt.mp h.2), Vector.getElem?_eq_none (Nat.le_of_not_lt hlt), Option.getD_none]
  · rw [if_neg hab, if_neg fun h => hab (Int.ofNat_le.mp (Int.sub_nonneg.mp h.1))]

theorem rowAt_ofNat (rows : Vector (List Cell608) 16) (a : Nat) : rowAt rows a = rows[a]?.getD [] := by
  simpa using rowAt_sub rows a 0

/-- A carriage return moves every row of the window one row up. -/
theorem Mem608.rollUp_eq (m : Mem608) :
    m.rollUp = { m with
      rows := Vector.ofFn fun i : Fin 16 =>
        if m.row.val ≤ i.val + m.scroll ∧ i.val < m.row.val then m.rows[i.val + 1]?.getD [] else [] } := by
  refine congrArg (fun rows => { m with rows := rows }) (congrArg Vector.ofFn (funext fun i => ?_))
  have hwindow : (m.row.val : Int) - m.scroll + 1 - 1 ≤ i.val ↔ m.row.val ≤ i.val + m.scroll := by omega
  exact if_congr (and_congr_left' hwindow) (rowAt_ofNat m.rows (i.val + 1)) rfl

/-- A move of the window keeps the distance of each of its rows to the cursor row. -/
theorem Mem608.moveWindow_eq (m : Mem608) (row : Fin 16) :
    m.moveWindow row = { m with
      rows := Vector.ofFn fun i : Fin 16 =>
        if row.val < i.val + m.scroll ∧ i ≤ row ∧ row.val ≤ i.val + m.row.val then
          m.rows[i.val + m.row.val - row.val]?.getD []
        else [] } := by
  refine congrArg (fun rows => { m with rows := rows }) (congrArg Vector.ofFn (funext fun i => ?_))
  have hwindow : (row.val : Int) - m.scroll + 1 ≤ i.val ↔ row.val < i.val + m.scroll := by omega
  have hsource : (i.val : Int) - (row.val - m.scroll + 1) + (m.row.val - m.scroll + 1) = (i.val + m.row.val : Nat) - row.val := by
    omega
  simp only [hwindow, hsource, rowAt_sub, ← and_assoc]
  exact (ite_and ..).symm

/-! ## Rows and styles of the tables (30 R114-R117, R125) -/

theorem pacRow_eq : ∀ idx : BitVec 4,
    [11, 11, 1, 2, 3, 4, 12, 13, 14, 15, 5, 6, 7, 8, 9, 10][idx.toNat]? = some (pacRow idx).val := by decide

theorem pacStyle_eq : ∀ (attr : BitVec 4) (ul : BitVec 1),
    pacStyle attr ul = { ul := ul == 1, it := attr == 7, fg := coloursP608[attr.toNat]?.getD .white, bg := .black } := by decide

theorem midrowAttr_eq : ∀ attr : BitVec 3, midrowAttr attr = (coloursP608[attr.toNat]?.getD .white, attr == 7) := by decide

theorem midrowStyle_eq (attr : BitVec 3) (ul : BitVec 1) (old : Style608) :
    midrowStyle attr ul old =
      { ul := ul == 1, it := attr == 7, fg := coloursP608[attr.toNat]?.getD .white, bg := old.bg } := by
  rw [midrowStyle, midrowAttr_eq]
  rfl

theorem bgColour_eq : ∀ low : BitVec 4, bgColour low = coloursP608[low.toNat / 4]?.getD .white := by decide

theorem extendedGlyph_eq (cfg : Params) (table : BitVec 1) (idx : BitVec 5) :
    extendedGlyph cfg table idx = (if table = 0 then cfg.extSpFr else cfg.extPtDe)[idx.toNat]'idx.isLt :=
  (apply_ite (fun glyphs : Vector Str 32 => glyphs[idx.toNat]'idx.isLt) _ _ _).symm

/-! ## Results of pairs -/

/-- A code that acts on the current buffer only makes `m` of it. -/
theorem onCur_result (s : State) (chan : BitVec 1) (v : Pair) (f : Mem608 → Mem608) {w : Pair} (hv : v = w) {m : Mem608}
    (hm : f ((s.remembered chan w).mem (s.remembered chan w).cur) = m) :
    ControlResult s (s.control608 chan v fun _ c => .quiet (c.onCur f)) chan
      ((s.remembered chan w).setMem (s.remembered chan w).cur m) [] [] := by
  subst hv hm
  exact control608_result s chan v _ _ [] [] rfl

/-- A PAC moves the window of a roll-up, if the row is another one, and then sets row and style. -/
theorem pacEffect_eq (row : Fin 16) (style : Style608) (c : Chan608) :
    pacEffect row style c = c.setMem c.cur { c.mem c.cur with
      row := row
      style := style
      rows :=
        if c.mode = .rollUp ∧ row ≠ (c.mem c.cur).row then ((c.mem c.cur).moveWindow row).rows else (c.mem c.cur).rows } := by
  unfold pacEffect Chan608.onCur
  by_cases hmove : c.mode = .rollUp ∧ row ≠ (c.mem c.cur).row
  · simp only [if_pos hmove]
    rfl
  · simp only [if_neg hmove]

/-- RUn in RollUp or Text resizes the window; in another mode it emits the displayed memory and starts a window (44 R303). -/
theorem ru_result (s : State) (chan ign : BitVec 1) (code : BitVec 4) (n : Nat) :
    let c := s.remembered chan (miscPair chan ign code.toNat)
    let t := s.misc608 code chan ign (ruEffect s.cfg s.tx.feed.pts n)
    (c.mode = .rollUp ∨ c.mode = .text →
      ControlResult s t chan { c with mode := .rollUp, cur := .disp, disp := { c.disp with scroll := n } } [] []) ∧
    (c.mode ≠ .rollUp → c.mode ≠ .text →
      ControlResult s t chan
        { c with
          mode := .rollUp, cur := .disp
          disp := { c.disp with rows := Vector.replicate 16 [], row := 15, scroll := n }
          nond := { c.nond with rows := Vector.replicate 16 [] } }
        (cue608 s.cfg (chanIndex s.tx.feed.field chan) c.disp c.prevEndTime s.tx.feed.pts).toList []) :=
  ⟨fun h => misc608_result s chan ign code _ _ [] [] (if_pos h),
    fun hroll htext => misc608_result s chan ign code _ _ _ [] (if_neg (not_or.mpr ⟨hroll, htext⟩))⟩

theorem State.onChan_chan608_self (s : State) (k : BitVec 2) (f : Chan608 → Eff608) :
    (s.onChan k f).chan608 k = (f (s.chan608 k)).ch := by
  simp [State.onChan_eq, State.chan608]

theorem State.onChan_chan608_of_ne (s : State) {j k : BitVec 2} (hj : j ≠ k) (f : Chan608 → Eff608) :
    (s.onChan k f).chan608 j = s.chan608 j := by
  have hne : k.toNat ≠ j.toNat := fun e => hj (BitVec.eq_of_toNat_eq e.symm)
  simp [State.onChan_eq, State.chan608, hne]

theorem execBad608_of_lt {s : State} (h : s.d608.badFrames < 44) (c1 c2 : Byte) :
    execBad608 c1 c2 s = .next { s with d608 := { s.d608 with badFrames := s.d608.badFrames + 1 } } :=
  if_neg (mt of_decide_eq_true (Nat.not_le.mpr (Nat.succ_lt_succ h)))

theorem execBad608_of_eq {s : State} (h : s.d608.badFrames = 44) (c1 c2 : Byte) :
    execBad608 c1 c2 s = .next (({ s with d608 := Dec608.reset }).logEvent .badFrameReset) :=
  if_pos (decide_eq_true (Nat.le_of_eq (congrArg Nat.succ h.symm)))

end Sys2Proof.Machine

open Sys2Proof Sys2Proof.Machine

/-- Settles O39: a code without an effect leaves its channel as it remembers the pair, and a duplicate is a code that then forgets
it; the bad frames are counted to 45 (`execBad608_of_lt`, `execBad608_of_eq`). -/
theorem pairsWithoutAnEffect : Obligations.PairsWithoutAnEffect := by
  intro s
  refine ⟨fun chan ign => ?_, fun chan low b2 => ⟨_, rfl, ?_⟩, fun chan low b2 => ⟨_, rfl, ?_⟩, rfl,
    fun c1 c2 => ⟨fun h => execBad608_of_lt h c1 c2, fun h => execBad608_of_eq h c1 c2⟩⟩
  · have haccepted (n : BitVec 4) := misc608_result s chan ign n (fun _ c => .quiet c) _ [] [] rfl
    simp only [List.forall_mem_cons]
    exact ⟨⟨_, rfl, haccepted 2⟩, ⟨_, rfl, haccepted 3⟩, ⟨_, rfl, haccepted 4⟩, ⟨_, rfl, haccepted 8⟩, nofun⟩
  · rw [controlPair_eq_ofNat rfl]
    exact control608_result s chan _ _ _ [] [] rfl
  · exact control608_result s chan (controlPair chan low b2) (fun _ c => .quiet { c with lastCP := none }) _ [] [] rfl

/-- Settles O40: each code's effect on the channel that remembers its pair, none with a cue. -/
theorem quietModeCodes : Obligations.QuietModeCodes := by
  intro s chan ign c logged
  exact ⟨⟨_, rfl, misc608_result s chan ign 0 _ _ [] [] rfl⟩, ⟨_, rfl, misc608_result s chan ign 9 _ _ [] [] rfl⟩,
    ⟨_, rfl, misc608_result s chan ign 10 _ _ [] logged rfl⟩, ⟨_, rfl, misc608_result s chan ign 11 _ _ [] logged rfl⟩,
    ⟨_, rfl, misc608_result s chan ign 14 _ _ [] [] rfl⟩⟩

/-- Settles O41, by the mode that the channel is in: RUn resizes the window or starts one. -/
theorem rollUpStarts : Obligations.RollUpStarts := by
  intro s chan ign
  simp only [List.forall_mem_cons]
  exact ⟨⟨_, rfl, ru_result s chan ign 5 2⟩, ⟨_, rfl, ru_result s chan ign 6 3⟩, ⟨_, rfl, ru_result s chan ign 7 4⟩, nofun⟩

/-- Settles O42: both codes emit the same; EDM then blanks the memory and EOC exchanges it. -/
theorem displayedMemoryEndsAndFlips : Obligations.DisplayedMemoryEndsAndFlips := by
  intro s chan ign c emitted
  exact ⟨⟨_, rfl, misc608_result s chan ign 12 _ _ emitted [] rfl⟩, ⟨_, rfl, misc608_result s chan ign 15 _ _ emitted [] rfl⟩⟩

/-- Settles O43, by the mode: only in RollUp does CR act, and there `Mem608.rollUp_eq` says where each row goes. -/
theorem carriageReturnRollsUp : Obligations.CarriageReturnRollsUp := by
  intro s chan ign c
  refine ⟨_, rfl, fun hmode => ?_, fun hmode => ?_⟩
  · exact misc608_result s chan ign 13 _ _ [] [] (if_neg hmode)
  · refine misc608_result s chan ign 13 _ _ _ [] ((if_pos hmode).trans ?_)
    rw [Mem608.rollUp_eq]
    rfl

/-- Settles O44: `pacEffect_eq` with the rows of a moved window (`Mem608.moveWindow_eq`) and the style of `pacStyle_eq`. -/
theorem preambleMovesAndStyles : Obligations.PreambleMovesAndStyles := by
  intro s chan idx attr ul c m
  refine ⟨_, pacRow idx, rfl, pacRow_eq idx, ?_⟩
  rw [controlPair_pac]
  refine control608_result s chan _ _ _ [] [] (congrArg Eff608.quiet ?_)
  rw [pacEffect_eq, Mem608.moveWindow_eq, pacStyle_eq]

/-- Settles O45: each code acts on the current buffer, a midrow code by typing a space first. -/
theorem midrowAndBackgroundStyle : Obligations.MidrowAndBackgroundStyle := by
  intro s chan
  refine ⟨fun attr ul => ⟨_, rfl, onCur_result s chan _ _ (controlPair_midrow chan attr ul) ?_⟩,
    fun low => ⟨_, rfl, onCur_result s chan _ _ (controlPair_bg chan low) ?_⟩, _, rfl,
    onCur_result s chan _ _ (controlPair_bgBlack chan) rfl⟩
  · rw [Mem608.append_eq, midrowStyle_eq]
  · rw [bgColour_eq]

/-- Settles O46: appending a glyph and removing the last cell, in terms of what is typed into the current row. -/
theorem charactersAreTyped : Obligations.CharactersAreTyped := by
  intro s
  refine ⟨fun chan idx => ⟨_, rfl, ?_⟩, fun chan table idx => ⟨_, rfl, ?_⟩, fun chan ign => ⟨_, rfl, ?_⟩, fun b1 b2 => ?_⟩
  · exact onCur_result s chan _ _ (controlPair_special chan idx) (Mem608.append_eq ..)
  · refine onCur_result s chan _ _ (controlPair_extended chan table idx) ((Mem608.removeLast_append ..).trans ?_)
    rw [extendedGlyph_eq]
  · exact onCur_result s chan _ _ (controlPair_misc chan ign 1) rfl
  · intro k c m glyphs
    have htyped := congrArg (c.setMem c.cur) (appendBasic_appendBasic s.cfg b1 b2 m)
    exact ⟨_, rfl, rfl, rfl, rfl, (s.onChan_chan608_self k _).trans htyped, fun j hj => s.onChan_chan608_of_ne hj _,
      List.append_nil _, List.append_nil _⟩
end

section
/-! SUPPORT. The family of 45_cea708.md but for characters and definitions (O47, O49 to O53, O55, O56, O58). First what the commands do
to one window, in the terms of Safety.lean, then to a set of windows, then how a block is entered; a code's result is then
`onCurrent_result` or `onWindows_keeping_result` at what it does to a window. -/

namespace Sys2Proof.Machine

/-! ## One window (45 R374-R377, R402, R403) -/

/-- Emitting a window if it is visible, in the terms of Safety.lean. -/
theorem emitIfVisible_eq_start_cues (cfg : Params) (n : BitVec 6) (pts : Rat) (w : Window) :
    emitIfVisible cfg n pts w = ({ w with start := startAfter cfg n pts w }, visibleCues cfg n pts w) :=
  emitIfVisible_eq cfg n pts w

/-- A command that emits the current window if it is visible, and then changes it, gives the window's cues and advances its start. -/
theorem onCurrent_emit_result {s : State} {x : BitVec 3} {w : Window} (h : s.IsCurrent x w) (f : Window → Window → Window) :
    WindowResult s
      (s.onCurrent fun v =>
        (f v (emitIfVisible s.cfg s.tx.feed.svc s.tx.feed.pts v).1, (emitIfVisible s.cfg s.tx.feed.svc s.tx.feed.pts v).2))
      x (f w { w with start := startAfter s.cfg s.tx.feed.svc s.tx.feed.pts w })
      (visibleCues s.cfg s.tx.feed.svc s.tx.feed.pts w) := by
  simp only [emitIfVisible_eq_start_cues]
  exact onCurrent_result s x w h _

/-- A position that the memory does not hold has no cell. -/
theorem Window.cell_of_not_holds {w : Window} {r c : Nat} (h : ¬ w.Holds r c) : w.cell r c = none := by
  unfold Window.cell
  rw [Option.not_isSome_iff_eq_none.mp h]
  rfl

/-- Erasing a position leaves no cell there, whether or not the memory holds it (45 R374). -/
theorem Window.cell_setCell_none (w : Window) (r c r' c' : Nat) :
    (w.setCell r c none).cell r' c' = if r' = r ∧ c' = c then none else w.cell r' c' := by
  rw [Window.cell_setCell_holds]
  by_cases hholds : w.Holds r' c'
  · simp only [and_iff_left hholds]
  · rw [Window.cell_of_not_holds hholds, ite_self, ite_self]

/-- BS does nothing out of bounds and at (0,0). -/
theorem Window.backspace_stays {w : Window}
    (h : w.rowCount ≤ w.pen.row ∨ w.colCount ≤ w.pen.col ∨ (w.pen.row = 0 ∧ w.pen.col = 0)) : w.backspace = w := by
  by_cases hin : penInBounds w = true
  · obtain ⟨hr, hc⟩ := penInBounds_iff.mp hin
    have horigin : w.pen.row = 0 ∧ w.pen.col = 0 := by omega
    simp [Window.backspace, horigin]
  · exact if_neg hin

/-- BS in bounds and not at (0,0): the pen retreats and the cell it comes to is erased. -/
theorem Window.backspace_retreats {w : Window} (hr : w.pen.row < w.rowCount) (hc : w.pen.col < w.colCount)
    (hne : w.pen.row ≠ 0 ∨ w.pen.col ≠ 0) :
    w.backspace =
      (w.setCell (if w.pen.col = 0 then w.pen.row - 1 else w.pen.row)
        (if w.pen.col = 0 then w.colCount - 1 else w.pen.col - 1) none).penAt
        (if w.pen.col = 0 then w.pen.row - 1 else w.pen.row) (if w.pen.col = 0 then w.colCount - 1 else w.pen.col - 1) := by
  unfold Window.backspace
  rw [if_pos (penInBounds_iff.mpr ⟨hr, hc⟩)]
  by_cases hcol : w.pen.col = 0
  · have hrow : w.pen.row > 0 := by omega
    simp [hcol, hrow]
  · simp [hcol, Nat.pos_of_ne_zero hcol]

theorem Window.carriageReturn_advances {w : Window} (h : w.pen.row + 1 < w.rowCount) :
    w.carriageReturn = w.penAt (w.pen.row + 1) 0 := if_pos h

theorem Window.carriageReturn_scrolls {w : Window} (h : w.rowCount ≤ w.pen.row + 1) :
    w.carriageReturn = w.scrollUp.penAt w.pen.row 0 := if_neg (Nat.not_lt.mpr h)

/-! ## What SPA, SPC, SPL and SWA read (45 R389-R391, R393, 30 R134) -/

theorem toNat_quantComponent : ∀ c : BitVec 2, (quantComponent c).toNat = c.toNat / 2 := by decide

/-- A component at bit `k` is quantized to the higher of its two bits (30 R134). -/
theorem toNat_quantComponent_extractLsb' (p : Byte) (k : Nat) :
    (quantComponent (p.extractLsb' k 2)).toNat = p.toNat / 2 ^ k / 2 % 2 := by
  rw [toNat_quantComponent, BitVec.extractLsb'_toNat, Nat.shiftRight_eq_div_pow]
  omega

/-- A quantized colour takes the high bit of each component (30 R134). -/
theorem quant_eq_ofNat (p : Byte) :
    quant p = BitVec.ofNat 3 (4 * (p.toNat / 32 % 2) + 2 * (p.toNat / 8 % 2) + p.toNat / 2 % 2) := by
  refine BitVec.eq_of_toNat_eq ?_
  simp only [quant, toNat_append_eq, toNat_quantComponent_extractLsb', Nat.div_div_eq_div_mul, Nat.reducePow, Nat.reduceMul,
    BitVec.toNat_ofNat]
  omega

/-- Italics and underline of SPA as comparisons (45 R389). -/
theorem spaBits_eq_decide (p : Byte) :
    p.getLsbD 7 = decide (128 ≤ p.toNat) ∧ p.getLsbD 6 = decide (64 ≤ p.toNat % 128) := by
  have hp := p.isLt
  simp only [BitVec.getLsbD, Nat.testBit_eq_decide_div_mod_eq, decide_eq_decide]
  omega

/-- The justification bits of SWA (45 R393). -/
theorem swaBits_eq_ofNat (p : Byte) : p.extractLsb' 0 2 = BitVec.ofNat 2 (p.toNat % 4) := by
  refine BitVec.eq_of_toNat_eq ?_
  simp only [BitVec.extractLsb'_toNat, Nat.shiftRight_eq_div_pow, BitVec.toNat_ofNat]
  omega

/-- The row and column of SPL (45 R391). -/
theorem splPosition_eq_mod (p1 p2 : Byte) :
    (p1 &&& 0x0F#8).toNat = p1.toNat % 16 ∧ (p2 &&& 0x3F#8).toNat = p2.toNat % 64 := by
  rw [BitVec.toNat_and, BitVec.toNat_and]
  exact ⟨Nat.and_two_pow_sub_one_eq_mod _ 4, Nat.and_two_pow_sub_one_eq_mod _ 6⟩

/-! ## A set of windows (45 R381-R385, R388) -/

/-- The indexed entries of a vector, in index order. -/
theorem zipIdx_toList_eq_map {α : Type} {n : Nat} (v : Vector α n) :
    v.toList.zipIdx = (List.finRange n).map fun i => (v[i], i.val) := by
  refine List.ext_getElem (by simp) fun i h1 h2 => ?_
  simp

/-- A command on selected windows appends their cues in rising index order. -/
theorem State.onWindows_cues (s : State) (sel : Nat → Bool) (f : Window → Option Window × List Cue) :
    (s.onWindows sel f).tx.cues = s.tx.cues ++ s.windowCues sel fun w => (f w).2 := by
  refine congrArg (s.tx.cues ++ ·) ?_
  rw [zipIdx_toList_eq_map, List.flatMap_map]
  rfl

/-- A command that gives no cue on any window gives none. -/
theorem State.windowCues_nil (s : State) (sel : Nat → Bool) : s.windowCues sel (fun _ => []) = [] := by
  refine List.flatMap_eq_nil_iff.mpr fun i _ => ?_
  split
  · exact ite_self _
  · rfl

/-- A command that keeps each selected window, as `g` makes it and with the cues of `cues`. -/
theorem onWindows_keeping_result (s : State) (sel : Nat → Bool) {f : Window → Option Window × List Cue} {g : Window → Window}
    {cues : Window → List Cue} (hf : ∀ w, f w = (some (g w), cues w)) :
    ServiceFrame s (s.onWindows sel f) ∧ (s.onWindows sel f).tx.cues = s.tx.cues ++ s.windowCues sel cues ∧
      (s.onWindows sel f).curService.current = s.curService.current ∧
      ∀ y : BitVec 3, (s.onWindows sel f).curWindow y = if sel y.toNat then (s.curWindow y).map g else s.curWindow y := by
  obtain rfl : f = fun w => (some (g w), cues w) := funext hf
  obtain ⟨hframe, hcur, hwin⟩ := onWindows_result s sel fun w => (some (g w), cues w)
  refine ⟨hframe, s.onWindows_cues sel _, hcur, fun y => ?_⟩
  rw [hwin y]
  simp only [Option.map_eq_bind, Function.comp_def]

/-- TGW shows a hidden window and emits and hides a visible one (45 R384). -/
theorem toggleVisible_eq (cfg : Params) (n : BitVec 6) (pts : Rat) (w : Window) :
    (if w.visible then (some { (emitIfVisible cfg n pts w).1 with visible := false }, (emitIfVisible cfg n pts w).2)
      else (some { w with visible := true, start := pts }, [])) =
    (some { w with visible := !w.visible, start := if w.visible then startAfter cfg n pts w else pts }, visibleCues cfg n pts w) := by
  rw [emitIfVisible_eq_start_cues]
  cases hv : w.visible <;> simp [visibleCues, hv]

/-- DSW shows a window, from the pts on if it was hidden (45 R382). -/
theorem showWindow_eq (pts : Rat) (w : Window) :
    showWindow pts w = { w with visible := true, start := if w.visible then w.start else pts } := by
  unfold showWindow
  cases hv : w.visible
  · simp
  · simp [← hv]

/-! ### Deleting windows -/

/-- Writing the block's service after a command of the block is within what such a command leaves. -/
theorem ServiceFrame.putService {s t : State} (h : ServiceFrame s t) (sv : Service) : ServiceFrame s (t.putService sv) where
  same := by
    have hsame : t = { s with d708 := t.d708, tx := { s.tx with cues := t.tx.cues } } := h.same
    unfold Same708 State.putService
    rw [hsame]
  builder := h.builder
  others m hm := by
    have hsvc : t.tx.feed.svc = s.tx.feed.svc := by rw [h.same]
    exact (t.service_putService sv m (hsvc ▸ hm)).trans (h.others m hm)

theorem ServiceFrame.dropCurrent {s t : State} (h : ServiceFrame s t) (gone : Bool) : ServiceFrame s (t.dropCurrent gone) := by
  cases gone
  · exact h
  · exact h.putService _

theorem State.dropCurrent_cues (s : State) (gone : Bool) : (s.dropCurrent gone).tx.cues = s.tx.cues := by
  cases gone <;> rfl

theorem State.dropCurrent_curWindow (s : State) (gone : Bool) (y : BitVec 3) :
    (s.dropCurrent gone).curWindow y = s.curWindow y := by
  cases gone
  · rfl
  · exact s.curWindow_putService _ y

theorem State.dropCurrent_current (s : State) (gone : Bool) :
    (s.dropCurrent gone).curService.current = if gone then none else s.curService.current := by
  cases gone
  · rfl
  · exact congrArg Service.current (s.curService_putService _)

/-- Emitting and removing the selected windows, and then the pointer where it is `gone`. -/
theorem deleteWindows_result (s : State) (sel : Nat → Bool) (gone : Bool) :
    let t := (s.onWindows sel fun w => (none, (emitIfVisible s.cfg s.tx.feed.svc s.tx.feed.pts w).2)).dropCurrent gone
    ServiceFrame s t ∧ t.tx.cues = s.tx.cues ++ s.windowCues sel (visibleCues s.cfg s.tx.feed.svc s.tx.feed.pts) ∧
      (∀ y : BitVec 3, t.curWindow y = if sel y.toNat then none else s.curWindow y) ∧
      t.curService.current = if gone then none else s.curService.current := by
  simp only [emitIfVisible_eq_start_cues]
  obtain ⟨hframe, hcur, hwin⟩ := onWindows_result s sel fun w => (none, visibleCues s.cfg s.tx.feed.svc s.tx.feed.pts w)
  refine ⟨hframe.dropCurrent gone, ?_, fun y => ?_, ?_⟩
  · rw [State.dropCurrent_cues, State.onWindows_cues]
  · rw [State.dropCurrent_curWindow, hwin y, Option.bind_fun_none]
  · rw [State.dropCurrent_current, hcur]

/-- The current window, which is present, is among the selected ones exactly where its index is selected. -/
theorem State.IsCurrent.currentIn {s : State} {x : BitVec 3} {w : Window} (h : s.IsCurrent x w) (sel : Nat → Bool) :
    s.curService.currentIn sel = sel x.toNat := by
  obtain ⟨hcur, hwin⟩ := h
  have hpresent : s.curService.win[x.toNat]'x.isLt = some w := hwin
  simp [Service.currentIn, hcur, hpresent]

/-! ## Service blocks (45 R365, R368) -/

/-- Entering a block creates its service, empty, at the first reference, and leaves the others. -/
theorem State.service_enterBlock (s : State) (n : BitVec 6) (size : Nat) (m : BitVec 6) :
    (s.enterBlock n size).service m = if m = n then some ((s.service n).getD Service.reset) else s.service m :=
  mapGet_mapPut n m _ s.d708.svc

theorem zero_append_eq_ofNat (svc : BitVec 3) : (0#3 ++ svc : BitVec 6) = BitVec.ofNat 6 svc.toNat := by
  refine BitVec.eq_of_toNat_eq ?_
  have hlt := svc.isLt
  simp only [toNat_append_eq, BitVec.toNat_ofNat]
  omega

/-- Bytes of a packet that hold no whole header or code discard the rest of it (45 R364, R367). -/
theorem State.reject_packet {s : State} (hp : s.phase = .svc ∨ s.phase = .cmd) (e : DecodeError) :
    s.reject e = s.overrun (if s.phase = .svc then 7 else s.tx.feed.svc)
      (if s.phase = .svc then s.tx.feed.pos + 1 else s.tx.feed.ext.getD s.tx.feed.pos) := by
  unfold State.reject
  rcases hp with hp | hp <;> rw [hp] <;> rfl

end Sys2Proof.Machine

open Sys2Proof Sys2Proof.Machine

/-- Settles O47: an instruction without an effect answers its own state, and one on the current window acts by `State.onCurrent`. -/
theorem codesWithoutAnEffect : Obligations.CodesWithoutAnEffect := by
  intro s x y a p1 p2 p3 p4 p5
  refine ⟨fun i hi => ?_, rfl, fun hnone i hi => ?_⟩
  · simp only [List.mem_cons, List.not_mem_nil, or_false] at hi
    rcases hi with rfl | rfl | rfl | rfl | rfl | rfl | rfl | rfl | rfl | rfl | rfl <;> rfl
  · have hexec : ∃ f, exec i s = .next (s.onCurrent f) := by
      simp only [List.mem_cons, List.not_mem_nil, or_false] at hi
      rcases hi with rfl | rfl | rfl | rfl | rfl | rfl | rfl | rfl | rfl | rfl | rfl | rfl | rfl <;> exact ⟨_, rfl⟩
    obtain ⟨f, hf⟩ := hexec
    rw [hf, onCurrent_none s hnone f]

/-- Settles O49, by where the pen stands. -/
theorem backspaceRetreatsAndErases : Obligations.BackspaceRetreatsAndErases := by
  intro s x w hcur
  refine ⟨_, w.backspace, rfl, onCurrent_result s x w hcur _, Window.backspace_stays, fun hr hc hne => ?_⟩
  rw [Window.backspace_retreats hr hc hne]
  exact ⟨rfl, rfl, fun r c => w.cell_setCell_none _ _ r c⟩

/-- Settles O50, by whether the pen's row is the last. -/
theorem carriageReturnAdvancesOrScrolls : Obligations.CarriageReturnAdvancesOrScrolls := by
  intro s x w hcur n start
  refine ⟨_, _, rfl, onCurrent_emit_result hcur fun _ v => v.carriageReturn, fun hnext => ?_, fun hlast => ?_⟩
  · rw [Window.carriageReturn_advances (w := { w with start := start }) hnext]
    rfl
  · rw [Window.carriageReturn_scrolls (w := { w with start := start }) hlast]
    exact ⟨rfl, Window.cell_scrollUp _⟩

/-- Settles O51: both emit first; then a row or the whole memory is emptied. -/
theorem returnAndFormFeedClear : Obligations.ReturnAndFormFeedClear := by
  intro s x w hcur n start
  exact ⟨⟨_, _, rfl, onCurrent_emit_result hcur fun u v => (v.clearRow u.pen.row).penAt u.pen.row 0, rfl,
      Window.cell_clearRow _ w.pen.row⟩,
    ⟨_, _, rfl, onCurrent_emit_result hcur fun _ v => v.clearMem.penAt 0 0, rfl, Window.cell_clearMem _⟩⟩

/-- Settles O52, by the bits that SWA reads. -/
theorem windowAttributesJustify : Obligations.WindowAttributesJustify := by
  intro s x w p1 p2 p3 p4 hcur
  refine ⟨_, rfl, ?_⟩
  rw [← swaBits_eq_ofNat]
  exact onCurrent_result s x w hcur _

/-- Settles O53: what each command reads from its bytes, in numbers. -/
theorem penCommandsSetThePen : Obligations.PenCommandsSetThePen := by
  intro s x w p1 p2 p3 hcur colour
  refine ⟨⟨_, rfl, ?_⟩, ⟨_, rfl, ?_⟩, ⟨_, rfl, ?_⟩⟩
  · obtain ⟨hit, hul⟩ := spaBits_eq_decide p2
    rw [← hit, ← hul]
    exact onCurrent_result s x w hcur _
  · have hquant : colour = quant := funext fun p => (quant_eq_ofNat p).symm
    rw [hquant]
    exact onCurrent_result s x w hcur _
  · obtain ⟨hrow, hcol⟩ := splPosition_eq_mod p1 p2
    rw [← hrow, ← hcol]
    exact onCurrent_result s x w hcur _

/-- Settles O55: what each command makes of one window, and the cues it gives there. -/
theorem bitmapCommandsActOnTheirWindows : Obligations.BitmapCommandsActOnTheirWindows := by
  intro s bitmap n pts emitted start
  have hemit := emitIfVisible_eq_start_cues s.cfg n pts
  simp only [List.forall_mem_cons]
  refine ⟨⟨_, rfl, onWindows_keeping_result s _ fun w => ?_⟩, ⟨_, rfl, ?_⟩, ⟨_, rfl, onWindows_keeping_result s _ fun w => ?_⟩,
    ⟨_, rfl, onWindows_keeping_result s _ (toggleVisible_eq s.cfg n pts)⟩, nofun⟩
  · rw [hemit]
    rfl
  · have hshow := onWindows_keeping_result s bitmap.getLsbD (cues := fun _ => []) fun w =>
      congrArg (fun v => (some v, ([] : List Cue))) (showWindow_eq pts w)
    rw [State.windowCues_nil] at hshow
    exact hshow
  · rw [hemit]

/-- Settles O56: both delete windows; DLW drops the pointer where its window is among them, RST always. -/
theorem windowsAreDeleted : Obligations.WindowsAreDeleted := by
  intro s
  refine ⟨fun bitmap => ?_, ?_⟩
  · obtain ⟨hframe, hcues, hwin, hcur⟩ := deleteWindows_result s bitmap.getLsbD (s.curService.currentIn bitmap.getLsbD)
    refine ⟨_, rfl, hframe, hcues, hwin, fun x w hx => ?_, fun hnone => ?_⟩
    · exact hcur.trans (by rw [hx.currentIn, hx.1])
    · exact hcur.trans (by rw [hnone, ite_self])
  · obtain ⟨hframe, hcues, hwin, hcur⟩ := deleteWindows_result s (fun _ => true) true
    exact ⟨_, rfl, hframe, hcues, hwin, hcur⟩

/-- Settles O58: entering a block (`State.service_enterBlock`), skipping one, and rejecting bytes that do not fit. -/
theorem blocksAreEnteredOrSkipped : Obligations.BlocksAreEnteredOrSkipped := by
  intro s entered skipped
  have hentered (n : BitVec 6) (size : Nat) : entered n size (s.enterBlock n size) :=
    ⟨rfl, rfl, fun m hm => (s.service_enterBlock n size m).trans (if_neg hm),
      (s.service_enterBlock n size n).trans (if_pos rfl)⟩
  refine ⟨fun svc size _ => ⟨_, rfl, ?_⟩, fun svc ign size hne => ⟨_, if_neg hne, hentered svc size.toNat⟩,
    fun _ _ => rfl, fun _ _ => rfl, fun l bs e hf hd hp => ?_⟩
  · rw [zero_append_eq_ofNat]
    exact hentered _ size.toNat
  · rw [step_of_error hf hd, State.reject_packet hp]
    rcases hp with hp | hp <;> rw [hp] <;> rfl
end

section
/-! SUPPORT. The family of 46_cue_assembler.md (O59, O60): the runs of a row, the raw text as the words of the joined run texts, and the
shared build in one equation. -/

namespace Sys2Proof.Machine

/-! ## White space and blank cells (46 R442) -/

theorem isWs_eq_decide (cfg : Params) (c : Char) : isWs cfg c = decide (c.toNat ∈ cfg.wsSet) :=
  List.contains_eq_mem ..

/-- Every character of a text is white space. -/
def White (cfg : Params) (t : Str) : Prop := ∀ ch ∈ t, ch.toNat ∈ cfg.wsSet

theorem blankCell_some_iff {cfg : Params} {c : GCell} : blankCell cfg (some c) = true ↔ White cfg c.glyph := by
  simp [blankCell, isWs_eq_decide, White]

/-! ## The column span (46 R444) -/

/-- Dropping stops at the first element that does not satisfy the predicate. -/
theorem dropWhile_append_of_head? {α : Type} {p : α → Bool} {pre l r : List α} (hpre : ∀ x ∈ pre, p x = true)
    (hl : ∃ a, l.head? = some a ∧ p a = false) : (pre ++ (l ++ r)).dropWhile p = l ++ r := by
  obtain ⟨a, hhead, ha⟩ := hl
  obtain ⟨t, rfl⟩ := List.head?_eq_some_iff.mp hhead
  rw [List.dropWhile_append_of_pos hpre, List.cons_append, List.dropWhile_cons_of_neg (by simp [ha])]

theorem mem_dropWhile_of_neg {α : Type} {p : α → Bool} {l : List α} {x : α} (hx : x ∈ l) (hp : p x = false) :
    x ∈ l.dropWhile p := by
  rw [← List.takeWhile_append_dropWhile (p := p) (l := l), List.mem_append] at hx
  exact hx.resolve_left fun htake => by simp [List.mem_takeWhile_imp htake] at hp

theorem columnSpan_of_blank {cfg : Params} {row : List (Option GCell)} (h : ∀ x ∈ row, blankCell cfg x = true) :
    columnSpan cfg row = [] := by
  simp [columnSpan, List.dropWhile_eq_nil_iff.mpr h]

/-- The column span of a row is the part between its blank ends that starts and ends with a cell that is not blank. -/
theorem columnSpan_append {cfg : Params} {pre span post : List (Option GCell)} (hblank : ∀ x ∈ pre ++ post, blankCell cfg x = true)
    (hfirst : ∃ a, span.head? = some a ∧ blankCell cfg a = false)
    (hlast : ∃ b, span.getLast? = some b ∧ blankCell cfg b = false) : columnSpan cfg (pre ++ span ++ post) = span := by
  obtain ⟨hpre, hpost⟩ := List.forall_mem_append.mp hblank
  have hback : (post.reverse ++ (span.reverse ++ [])).dropWhile (blankCell cfg) = span.reverse ++ [] :=
    dropWhile_append_of_head? (by simpa using hpost) (by simpa using hlast)
  rw [columnSpan, List.append_assoc, dropWhile_append_of_head? hpre hfirst, List.reverse_append,
    ← List.append_nil span.reverse, hback, List.append_nil, List.reverse_reverse]

/-- A cell that is not blank lies in the column span of its row. -/
theorem mem_columnSpan {cfg : Params} {row : List (Option GCell)} {x : Option GCell} (hx : x ∈ row)
    (hfilled : blankCell cfg x = false) : x ∈ columnSpan cfg row :=
  List.mem_reverse.mpr (mem_dropWhile_of_neg (List.mem_reverse.mpr (mem_dropWhile_of_neg hx hfilled)) hfilled)

/-! ## Filling a span (46 R445) -/

theorem length_fillSpan (prev : Style) (span : List (Option GCell)) : (fillSpan prev span).length = span.length := by
  induction span generalizing prev with
  | nil => rfl
  | cons x r ih => cases x <;> simp [fillSpan, ih]

/-- A present cell of a span stays as it is. -/
theorem fillSpan_getElem?_of_some {prev : Style} {span : List (Option GCell)} {i : Nat} {c : GCell} (h : span[i]? = some (some c)) :
    (fillSpan prev span)[i]? = some c := by
  induction span generalizing prev i with
  | nil => simp at h
  | cons x r ih =>
    cases i with
    | zero =>
      obtain rfl : x = some c := by simpa using h
      rfl
    | succ i =>
      cases x <;> exact ih h

/-- An absent cell of a span is a space in the style of the cell before it. -/
theorem fillSpan_getElem?_of_none {prev : Style} {span : List (Option GCell)} {i : Nat} {c : GCell} (h : span[i + 1]? = some none)
    (hc : (fillSpan prev span)[i]? = some c) : (fillSpan prev span)[i + 1]? = some { glyph := [' '], style := c.style } := by
  induction span generalizing prev i with
  | nil => simp at h
  | cons x r ih =>
    cases i with
    | zero =>
      obtain ⟨t, rfl⟩ : ∃ t, r = none :: t := List.head?_eq_some_iff.mp (by simpa [List.head?_eq_getElem?] using h)
      cases x <;> (obtain rfl := Option.some.inj hc; rfl)
    | succ i =>
      cases x <;> exact ih h hc

/-! ## Runs of equal style (46 R444) -/

/-- The styled characters that the cells of a span spell. -/
def spelledCells (cells : List GCell) : List (Char × Style) := cells.flatMap fun c => c.glyph.map fun ch => (ch, c.style)

/-- The styled characters that the runs of a row spell. -/
def spelledRuns (runs : List Run) : List (Char × Style) := runs.flatMap fun r => r.text.map fun ch => (ch, r.style)

theorem spelledRuns_groupRuns (cur : Run) (cells : List GCell) :
    spelledRuns (groupRuns cur cells) = (cur.text.map fun ch => (ch, cur.style)) ++ spelledCells cells := by
  induction cells generalizing cur with
  | nil => simp [groupRuns, spelledRuns, spelledCells]
  | cons c r ih =>
    by_cases hstyle : c.style = cur.style
    · rw [groupRuns, if_pos hstyle, ih]
      simp [spelledCells, hstyle]
    · rw [groupRuns, if_neg hstyle, spelledRuns, List.flatMap_cons, ← spelledRuns, ih]
      rfl

/-- The first run has the style of the run being built. -/
theorem groupRuns_eq_cons (cur : Run) (cells : List GCell) :
    ∃ a t, groupRuns cur cells = a :: t ∧ a.style = cur.style := by
  induction cells generalizing cur with
  | nil => exact ⟨cur, [], rfl, rfl⟩
  | cons c r ih =>
    by_cases hstyle : c.style = cur.style
    · rw [groupRuns, if_pos hstyle]
      exact ih _
    · exact ⟨cur, _, if_neg hstyle, rfl⟩

theorem groupRuns_isChain (cur : Run) (cells : List GCell) :
    (groupRuns cur cells).IsChain fun a b => a.style ≠ b.style := by
  induction cells generalizing cur with
  | nil => exact .singleton _
  | cons c r ih =>
    by_cases hstyle : c.style = cur.style
    · rw [groupRuns, if_pos hstyle]
      exact ih _
    · rw [groupRuns, if_neg hstyle]
      have hrest := ih { text := c.glyph, style := c.style }
      obtain ⟨a, t, hruns, ha⟩ := groupRuns_eq_cons { text := c.glyph, style := c.style } r
      rw [hruns] at hrest ⊢
      exact List.isChain_cons_cons.mpr ⟨fun heq => hstyle (heq.trans ha).symm, hrest⟩

/-- The filled cells of the column span of a row, which its runs group. -/
def filledSpan (cfg : Params) (row : List (Option GCell)) : List GCell :=
  fillSpan (spanStyle (columnSpan cfg row)) (columnSpan cfg row)

theorem rowRuns_of_blank {cfg : Params} {row : List (Option GCell)} (h : ∀ x ∈ row, blankCell cfg x = true) : rowRuns cfg row = [] := by
  rw [rowRuns, columnSpan_of_blank h]
  rfl

/-- A row whose filled span is empty has no run; else its runs group the cells from the first of the span on. -/
theorem rowRuns_cases (cfg : Params) (row : List (Option GCell)) :
    filledSpan cfg row = [] ∧ rowRuns cfg row = [] ∨
      ∃ c r, filledSpan cfg row = c :: r ∧ rowRuns cfg row = groupRuns { text := c.glyph, style := c.style } r := by
  simp only [rowRuns, filledSpan]
  split
  · exact .inl ⟨‹_›, rfl⟩
  · exact .inr ⟨_, _, ‹_›, rfl⟩

theorem spelledRuns_rowRuns (cfg : Params) (row : List (Option GCell)) :
    spelledRuns (rowRuns cfg row) = spelledCells (filledSpan cfg row) := by
  obtain ⟨hcells, hruns⟩ | ⟨c, r, hcells, hruns⟩ := rowRuns_cases cfg row
  · rw [hcells, hruns]
    rfl
  · rw [hcells, hruns]
    exact spelledRuns_groupRuns _ r

theorem rowRuns_isChain (cfg : Params) (row : List (Option GCell)) : (rowRuns cfg row).IsChain fun a b => a.style ≠ b.style := by
  obtain ⟨-, hruns⟩ | ⟨c, r, -, hruns⟩ := rowRuns_cases cfg row <;> rw [hruns]
  · exact .nil
  · exact groupRuns_isChain _ r

/-! ## The raw text (46 R446) -/

/-- The words of a text: its maximal parts without white space. -/
def wordsOf (cfg : Params) (t : Str) : List Str := (t.splitOnP (isWs cfg)).filter (· ≠ [])

theorem wordsOf_cons_ws {cfg : Params} {c : Char} (hc : isWs cfg c = true) (t : Str) : wordsOf cfg (c :: t) = wordsOf cfg t := by
  simp [wordsOf, List.splitOnP_cons_eq_if_modifyHead, hc]

/-- A last character is a word. -/
theorem wordsOf_singleton {cfg : Params} {c : Char} (hc : isWs cfg c = false) : wordsOf cfg [c] = [[c]] := by
  simp [wordsOf, List.splitOnP_cons_eq_if_modifyHead, hc]

/-- A character before white space ends a word. -/
theorem wordsOf_cons_cons_ws {cfg : Params} {c d : Char} (hc : isWs cfg c = false) (hd : isWs cfg d = true) (t : Str) :
    wordsOf cfg (c :: d :: t) = [c] :: wordsOf cfg (d :: t) := by
  simp [wordsOf, List.splitOnP_cons_eq_if_modifyHead, hc, hd]

/-- A character before another one that is not white space stands in that one's word. -/
theorem wordsOf_cons_cons {cfg : Params} {c d : Char} (hc : isWs cfg c = false) (hd : isWs cfg d = false) (t : Str) :
    ∃ w ws, wordsOf cfg (d :: t) = w :: ws ∧ wordsOf cfg (c :: d :: t) = (c :: w) :: ws := by
  obtain ⟨w, ws, hsplit⟩ := List.exists_cons_of_ne_nil (List.splitOnP_ne_nil (isWs cfg) t)
  exact ⟨d :: w, ws.filter (· ≠ []), by simp [wordsOf, List.splitOnP_cons_eq_if_modifyHead, hc, hd, hsplit]⟩

theorem wordsOf_cons_ne_nil {cfg : Params} {c : Char} (hc : isWs cfg c = false) (t : Str) : wordsOf cfg (c :: t) ≠ [] := by
  obtain ⟨w, ws, hsplit⟩ := List.exists_cons_of_ne_nil (List.splitOnP_ne_nil (isWs cfg) t)
  simp [wordsOf, List.splitOnP_cons_eq_if_modifyHead, hc, hsplit]

/-- The words of a text, with one space between two of them. -/
def joinedWords (cfg : Params) (t : Str) : Str := List.intercalate [' '] (wordsOf cfg t)

theorem joinedWords_singleton {cfg : Params} {c : Char} (hc : isWs cfg c = false) : joinedWords cfg [c] = [c] := by
  rw [joinedWords, wordsOf_singleton hc, List.intercalate_singleton]

theorem joinedWords_cons_cons_ws {cfg : Params} {c d : Char} (hc : isWs cfg c = false) (hd : isWs cfg d = true) (t : Str) :
    joinedWords cfg (c :: d :: t) =
      c :: if wordsOf cfg (d :: t) = [] then [] else ' ' :: joinedWords cfg (d :: t) := by
  rw [joinedWords, wordsOf_cons_cons_ws hc hd]
  split
  · next hnone => rw [hnone, List.intercalate_singleton]
  · next hsome => exact List.intercalate_cons_of_ne_nil hsome

theorem joinedWords_cons_cons {cfg : Params} {c d : Char} (hc : isWs cfg c = false) (hd : isWs cfg d = false) (t : Str) :
    joinedWords cfg (c :: d :: t) = c :: joinedWords cfg (d :: t) := by
  obtain ⟨w, ws, hwords, hcons⟩ := wordsOf_cons_cons hc hd t
  rw [joinedWords, joinedWords, hwords, hcons]
  cases ws <;> simp

/-- Drop one trailing space. -/
def dropLastSpace (t : Str) : Str := if t.getLast? = some ' ' then t.dropLast else t

theorem dropLastSpace_cons (c : Char) {t : Str} (ht : t ≠ []) : dropLastSpace (c :: t) = c :: dropLastSpace t := by
  obtain ⟨d, r, rfl⟩ := List.exists_cons_of_ne_nil ht
  simp only [dropLastSpace, List.getLast?_cons_cons, List.dropLast_cons_of_ne_nil ht]
  split <;> rfl

theorem collapseWs_of_not_ws {cfg : Params} {c : Char} (hc : isWs cfg c = false) (inWs : Bool) (t : Str) :
    collapseWs cfg inWs (c :: t) = c :: collapseWs cfg false t := by
  simp [collapseWs, hc]

theorem collapseWs_true_of_ws {cfg : Params} {c : Char} (hc : isWs cfg c = true) (t : Str) :
    collapseWs cfg true (c :: t) = collapseWs cfg true t := by
  simp [collapseWs, hc]

theorem collapseWs_false_of_ws {cfg : Params} {c : Char} (hc : isWs cfg c = true) (t : Str) :
    collapseWs cfg false (c :: t) = ' ' :: collapseWs cfg true t := by
  simp [collapseWs, hc]

/-- After white space, collapsing leaves nothing exactly where no word follows. -/
theorem collapseWs_true_eq_nil_iff (cfg : Params) (t : Str) : collapseWs cfg true t = [] ↔ wordsOf cfg t = [] := by
  induction t with
  | nil => exact ⟨fun _ => rfl, fun _ => rfl⟩
  | cons c r ih =>
    cases hc : isWs cfg c with
    | true => rwa [collapseWs_true_of_ws hc, wordsOf_cons_ws hc]
    | false => simp [collapseWs_of_not_ws hc, wordsOf_cons_ne_nil hc]

/-- After white space, collapsing and dropping a trailing space leaves the words with one space between two of them. -/
theorem dropLastSpace_collapseWs {cfg : Params} (hspace : isWs cfg ' ' = true) (t : Str) :
    dropLastSpace (collapseWs cfg true t) = joinedWords cfg t := by
  induction t with
  | nil => rfl
  | cons c r ih =>
    cases hc : isWs cfg c with
    | true => rwa [collapseWs_true_of_ws hc, joinedWords, wordsOf_cons_ws hc]
    | false =>
      have hne : c ≠ ' ' := fun heq => by simp [heq, hspace] at hc
      rw [collapseWs_of_not_ws hc]
      cases r with
      | nil => simp [collapseWs, dropLastSpace, hne, joinedWords_singleton hc]
      | cons d r =>
        cases hd : isWs cfg d with
        | false =>
          rw [collapseWs_of_not_ws hd] at ih ⊢
          rw [dropLastSpace_cons c (List.cons_ne_nil _ _), ih, joinedWords_cons_cons hc hd]
        | true =>
          rw [collapseWs_true_of_ws hd] at ih
          rw [collapseWs_false_of_ws hd, joinedWords_cons_cons_ws hc hd]
          have hnil : collapseWs cfg true r = [] ↔ wordsOf cfg (d :: r) = [] := by
            rw [wordsOf_cons_ws hd, collapseWs_true_eq_nil_iff]
          by_cases hrest : wordsOf cfg (d :: r) = []
          · simp [hnil.mpr hrest, hrest, dropLastSpace]
          · rw [if_neg hrest, dropLastSpace_cons c (List.cons_ne_nil _ _), dropLastSpace_cons ' ' (hnil.not.mpr hrest), ih]

/-- Trimming drops the leading space that white space at the start leaves, and a trailing one. -/
theorem trimSpace_collapseWs {cfg : Params} (hspace : isWs cfg ' ' = true) (t : Str) :
    trimSpace (collapseWs cfg false t) = dropLastSpace (collapseWs cfg true t) := by
  cases t with
  | nil => rfl
  | cons c r =>
    cases hc : isWs cfg c with
    | true =>
      rw [collapseWs_false_of_ws hc, collapseWs_true_of_ws hc]
      rfl
    | false =>
      have hne : c ≠ ' ' := fun heq => by simp [heq, hspace] at hc
      rw [collapseWs_of_not_ws hc, collapseWs_of_not_ws hc]
      simp [trimSpace, dropLastSpace, hne]

/-- The raw text is the words of the joined run texts (46 R446), where U+0020 is white space. -/
theorem rawTextOf_eq_joinedWords {cfg : Params} (hspace : isWs cfg ' ' = true) (texts : List Run) :
    rawTextOf cfg texts = joinedWords cfg (List.intercalate [' '] (texts.map (·.text))) := by
  rw [rawTextOf, trimSpace_collapseWs hspace, dropLastSpace_collapseWs hspace]

/-! ## Where a grid has text (46 R443) -/

theorem rowFilled_iff {cfg : Params} {row : List (Option GCell)} :
    rowFilled cfg row = true ↔ ∃ c : GCell, some c ∈ row ∧ ¬ White cfg c.glyph := by
  simp only [rowFilled, List.any_eq_true, Bool.not_eq_true', ← Bool.not_eq_true]
  refine ⟨fun ⟨x, hx, hfilled⟩ => ?_, fun ⟨c, hc, hfilled⟩ => ⟨some c, hc, blankCell_some_iff.not.mpr hfilled⟩⟩
  cases x with
  | none => exact absurd rfl hfilled
  | some c => exact ⟨c, hx, blankCell_some_iff.not.mp hfilled⟩

/-- A present cell of the column span is among the cells that its runs group. -/
theorem mem_filledSpan {cfg : Params} {row : List (Option GCell)} {c : GCell} (hc : some c ∈ columnSpan cfg row) :
    c ∈ filledSpan cfg row := by
  obtain ⟨i, hi⟩ := List.mem_iff_getElem?.mp hc
  exact List.mem_iff_getElem?.mpr ⟨i, fillSpan_getElem?_of_some hi⟩

/-- A row with a cell that is not blank has a run with text. -/
theorem exists_text_of_rowFilled {cfg : Params} {row : List (Option GCell)} (h : rowFilled cfg row = true) :
    ∃ r ∈ rowRuns cfg row, r.text ≠ [] := by
  obtain ⟨c, hc, hfilled⟩ := rowFilled_iff.mp h
  have hblank : blankCell cfg (some c) = false := by simpa using blankCell_some_iff.not.mpr hfilled
  obtain ⟨ch, hch, -⟩ : ∃ ch ∈ c.glyph, ch.toNat ∉ cfg.wsSet := by simpa [White] using hfilled
  have hspelled : (ch, c.style) ∈ spelledCells (filledSpan cfg row) :=
    List.mem_flatMap.mpr ⟨c, mem_filledSpan (mem_columnSpan hc hblank), List.mem_map.mpr ⟨ch, hch, rfl⟩⟩
  rw [← spelledRuns_rowRuns] at hspelled
  obtain ⟨r, hr, htext⟩ := List.mem_flatMap.mp hspelled
  exact ⟨r, hr, fun hnil => by simp [hnil] at htext⟩

/-- A grid with a row that is not blank has a run with text, so the second test of the shared build never fails on its own. -/
theorem gridRuns_text_of_firstRow {cfg : Params} {g : Grid} {r0 : Nat} (h : firstRow cfg g = some r0) :
    (gridRuns cfg g).all (fun r => r.text.isEmpty) = false := by
  obtain ⟨hlt, hfilled, -⟩ := List.findIdx?_eq_some_iff_getElem.mp h
  obtain ⟨r, hr, htext⟩ := exists_text_of_rowFilled hfilled
  exact List.all_eq_false.mpr ⟨r, List.mem_flatMap.mpr ⟨_, List.getElem_mem hlt, hr⟩, by simpa using htext⟩

/-! ## The shared build (46 R443-R447) -/

theorem scaleTime_eq (u : TimeUnit) (t : Rat) : scaleTime u t = if u = .seconds then t else 1000 * t := by
  cases u with
  | seconds => rfl
  | milliseconds =>
    rw [if_neg (by decide), scaleTime, Rat.mkRat_eq_div, Int.cast_mul, mul_div_assoc, Rat.num_div_den]
    rfl

/-- The cue that the shared build gives for a grid whose first row with text is `r0`. -/
def cueAt (cfg : Params) (stream : Stream) (t0 t1 : Rat) (position : Nat → Option Rat) (region : Option Region) (g : Grid)
    (r0 : Nat) : Cue :=
  let raw := rawTextOf cfg (gridRuns cfg g)
  let b := scaleTime cfg.timeUnit t0
  let e := scaleTime cfg.timeUnit t1
  { id := Config.cueId stream.label b e raw, stream := stream, begin_ := b, end_ := e, position := position r0,
    texts := gridRuns cfg g, rawText := raw, region := region }

section
variable {cfg : Params} {stream : Stream} {t0 t1 : Rat} {position : Nat → Option Rat} {region : Option Region} {g : Grid}

theorem buildCue_eq :
    buildCue cfg stream t0 t1 position region g =
      if t1 ≤ t0 then none else (firstRow cfg g).map (cueAt cfg stream t0 t1 position region g) := by
  unfold buildCue
  cases h : firstRow cfg g with
  | none => exact (ite_self _).symm
  | some r0 => simp [gridRuns_text_of_firstRow h, cueAt]

theorem buildCue_eq_none_iff :
    buildCue cfg stream t0 t1 position region g = none ↔ (∀ row ∈ g, ¬ rowFilled cfg row = true) ∨ t1 ≤ t0 := by
  rw [buildCue_eq, ite_eq_left_iff, Option.map_eq_none_iff, firstRow, List.findIdx?_eq_none_iff]
  simp only [Bool.not_eq_true]
  tauto

theorem eq_cueAt_of_buildCue {c : Cue} (h : buildCue cfg stream t0 t1 position region g = some c) :
    ∃ r0, firstRow cfg g = some r0 ∧ c = cueAt cfg stream t0 t1 position region g r0 := by
  rw [buildCue_eq] at h
  split at h
  · cases h
  · obtain ⟨r0, hr0, hc⟩ := Option.map_eq_some_iff.mp h
    exact ⟨r0, hr0, hc.symm⟩

/-- The times of a cue are scaled, its id is CUE_ID of them, and its raw text is the words of its run texts. -/
theorem cueAt_timed (r0 : Nat) :
    let c := cueAt cfg stream t0 t1 position region g r0
    c.begin_ = (if cfg.timeUnit = .seconds then t0 else 1000 * t0) ∧ c.end_ = (if cfg.timeUnit = .seconds then t1 else 1000 * t1) ∧
      c.id = Config.cueId c.stream.label c.begin_ c.end_ c.rawText ∧
      (0x20 ∈ cfg.wsSet →
        c.rawText = List.intercalate [' ']
          (((List.intercalate [' '] (c.texts.map (·.text))).splitOnP fun ch => decide (ch.toNat ∈ cfg.wsSet)).filter (· ≠ []))) := by
  intro c
  refine ⟨scaleTime_eq _ t0, scaleTime_eq _ t1, rfl, fun hspace => ?_⟩
  have hws : isWs cfg ' ' = true := (isWs_eq_decide cfg ' ').trans (decide_eq_true hspace)
  simp only [← isWs_eq_decide]
  exact rawTextOf_eq_joinedWords hws _
end

/-! ## The grid of a 608 memory (46 R449) -/

theorem grid608_eq_map (m : Mem608) : grid608 m = (List.finRange 16).map fun i => m.rows[i].map fun x => some x.toG := by
  refine List.ext_getElem (by simp [grid608]) fun i h1 h2 => ?_
  simp [grid608]

theorem rowFilled_map_toG {cfg : Params} {cells : List Cell608} :
    rowFilled cfg (cells.map fun x => some x.toG) = true ↔ ∃ x ∈ cells, ¬ White cfg x.glyph := by
  simp [rowFilled_iff, Cell608.toG]

theorem gridRuns_grid608 (cfg : Params) (m : Mem608) :
    gridRuns cfg (grid608 m) = (List.finRange 16).flatMap fun i => rowRuns cfg (m.rows[i].map fun x => some x.toG) := by
  rw [gridRuns, grid608_eq_map, List.flatMap_map]

theorem grid608_blank_iff {cfg : Params} {m : Mem608} :
    (∀ row ∈ grid608 m, ¬ rowFilled cfg row = true) ↔ ∀ i : Fin 16, ∀ x ∈ m.rows[i], White cfg x.glyph := by
  simp only [grid608_eq_map, List.forall_mem_map, rowFilled_map_toG, List.mem_finRange, forall_const, not_exists, not_and, not_not]

/-- The first row with text of a 608 memory. -/
theorem firstRow_grid608 {cfg : Params} {m : Mem608} {r0 : Nat} (h : firstRow cfg (grid608 m) = some r0) :
    ∃ i0 : Fin 16, i0.val = r0 ∧ (∃ x ∈ m.rows[i0], ¬ White cfg x.glyph) ∧
      ∀ i : Fin 16, i < i0 → ∀ x ∈ m.rows[i], White cfg x.glyph := by
  rw [grid608_eq_map] at h
  obtain ⟨hlt, hfilled, hbefore⟩ := List.findIdx?_eq_some_iff_getElem.mp h
  rw [List.length_map, List.length_finRange] at hlt
  simp only [List.getElem_map, List.getElem_finRange, rowFilled_map_toG] at hfilled hbefore
  refine ⟨⟨r0, hlt⟩, rfl, hfilled, fun i hi x hx => ?_⟩
  by_contra hnot
  exact hbefore i hi ⟨x, hx, hnot⟩

/-! ## The grid of a window (46 R450) -/

theorem rowFilled_map_map_toG {cfg : Params} {row : WinRow} :
    rowFilled cfg (row.map (Option.map Cell708.toG)) = true ↔ ∃ x, some x ∈ row ∧ ¬ White cfg x.glyph := by
  simp only [rowFilled_iff, List.mem_map, Option.map_eq_some_iff]
  constructor
  · rintro ⟨_, ⟨_, hx, x, rfl, rfl⟩, hfilled⟩
    exact ⟨x, hx, hfilled⟩
  · rintro ⟨x, hx, hfilled⟩
    exact ⟨x.toG, ⟨some x, hx, x, rfl, rfl⟩, hfilled⟩

/-- The cells of a window are those of its memory's rows. -/
theorem exists_cell_eq_some_iff {w : Window} {x : Cell708} : (∃ r c, w.cell r c = some x) ↔ ∃ row ∈ w.mem, some x ∈ row := by
  simp only [Window.cell, Option.join_eq_some_iff, Option.bind_eq_some_iff, List.mem_iff_getElem?]
  constructor
  · rintro ⟨r, c, row, hrow, hx⟩
    exact ⟨row, ⟨r, hrow⟩, c, hx⟩
  · rintro ⟨row, ⟨r, hrow⟩, c, hx⟩
    exact ⟨r, c, row, hrow, hx⟩

theorem gridRuns_grid708 (cfg : Params) (w : Window) :
    gridRuns cfg (grid708 w) = w.mem.flatMap fun row => rowRuns cfg (row.map (Option.map Cell708.toG)) :=
  List.flatMap_map ..

theorem grid708_blank_iff {cfg : Params} {w : Window} :
    (∀ row ∈ grid708 w, ¬ rowFilled cfg row = true) ↔ ∀ r c x, w.cell r c = some x → White cfg x.glyph := by
  simp only [grid708, List.forall_mem_map, rowFilled_map_map_toG, not_exists, not_and, not_not]
  constructor
  · intro hrows r c x hx
    obtain ⟨row, hrow, hmem⟩ := exists_cell_eq_some_iff.mp ⟨r, c, hx⟩
    exact hrows row hrow x hmem
  · intro hcells row hrow x hmem
    obtain ⟨r, c, hx⟩ := exists_cell_eq_some_iff.mpr ⟨row, hrow, hmem⟩
    exact hcells r c x hx

/-! ## The region of a window (46 R451, R453) -/

/-- The anchor points in the order of their anchor ids. -/
abbrev anchorPoints : List AnchorPoint := [.ul, .uc, .ur, .ml, .mc, .mr, .ll, .lc, .lr]

theorem anchorPoint_eq (cfg : Params) (aid : BitVec 4) :
    anchorPoint cfg aid = (anchorPoints[aid.toNat]?).getD cfg.anchorFallback := by
  unfold anchorPoint
  match aid.toNat with
  | 0 | 1 | 2 | 3 | 4 | 5 | 6 | 7 | 8 => rfl
  | _ + 9 => rfl

/-- The anchor points stand in three rows of three (46 R451). -/
theorem anchorPercent_eq {i : Nat} {a : AnchorPoint} (h : anchorPoints[i]? = some a) :
    anchorPercent a = (((50 * (i % 3) : Nat) : Rat), ((50 * (i / 3) : Nat) : Rat)) := by
  obtain ⟨hlt, rfl⟩ := List.getElem?_eq_some_iff.mp h
  replace hlt : i < 9 := hlt
  interval_cases i <;> rfl

/-- The region anchor of an id up to 8 is that of the id, and of a higher one that of ANCHOR_FALLBACK (46 R451). -/
theorem anchorPercent_anchorPoint {cfg : Params} {aid : BitVec 4} {i : Nat}
    (h : if aid.toNat ≤ 8 then i = aid.toNat else anchorPoints[i]? = some cfg.anchorFallback) :
    anchorPercent (anchorPoint cfg aid) = (((50 * (i % 3) : Nat) : Rat), ((50 * (i / 3) : Nat) : Rat)) := by
  refine anchorPercent_eq ?_
  rw [anchorPoint_eq]
  split at h
  · next hid =>
    have hlt : aid.toNat < anchorPoints.length := Nat.lt_succ_of_le hid
    rw [h, List.getElem?_eq_getElem hlt]
    rfl
  · next hid =>
    have hpast : anchorPoints.length ≤ aid.toNat := Nat.lt_of_not_le hid
    rw [List.getElem?_eq_none hpast, h]
    rfl

theorem alignOf_eq : ∀ justify : BitVec 2,
    alignOf justify = if justify = 0 then .left else if justify = 1 then .right else .center := by decide

end Sys2Proof.Machine

open Sys2Proof Sys2Proof.Machine

/-- Settles O60, with the filled column span of the row as the cells that the runs spell. -/
theorem runsSpellTheirRow : Obligations.RunsSpellTheirRow := by
  refine ⟨fun cfg row => rowRuns_of_blank, fun cfg pre span post hblank hfirst hlast => ?_⟩
  have hspan : columnSpan cfg (pre ++ span ++ post) = span := columnSpan_append hblank hfirst hlast
  have hspelled := spelledRuns_rowRuns cfg (pre ++ span ++ post)
  rw [filledSpan, hspan] at hspelled
  exact ⟨fillSpan (spanStyle span) span, length_fillSpan _ span, fun _ _ => fillSpan_getElem?_of_some,
    fun _ _ => fillSpan_getElem?_of_none, hspelled, rowRuns_isChain cfg _⟩

/-- Settles O59: what the shared build gives (`buildCue_eq_none_iff`, `eq_cueAt_of_buildCue`), on the grid of a memory and on that of
a window. -/
theorem cuesNeedTextAndTime : Obligations.CuesNeedTextAndTime := by
  intro cfg t0 t1 white timed
  refine ⟨fun k m => ⟨buildCue_eq_none_iff.trans (or_congr_left grid608_blank_iff), fun c hc => ?_⟩,
    fun n w => ⟨buildCue_eq_none_iff.trans (or_congr_left grid708_blank_iff), fun c hc => ?_⟩⟩
  · obtain ⟨r0, hfirst, rfl⟩ := eq_cueAt_of_buildCue hc
    obtain ⟨i0, rfl, hfilled, hbefore⟩ := firstRow_grid608 hfirst
    exact ⟨rfl, cueAt_timed _, rfl, gridRuns_grid608 cfg m, i0, rfl, hfilled, hbefore⟩
  · obtain ⟨r0, -, rfl⟩ := eq_cueAt_of_buildCue hc
    exact ⟨rfl, cueAt_timed _, rfl, gridRuns_grid708 cfg w, regionOf cfg w, rfl, rfl, fun i => anchorPercent_anchorPoint, rfl, rfl,
      rfl, alignOf_eq w.justify⟩
end

section
/-! SUPPORT. The family of 70_reset_and_hazards.md: the invariants at reset (O15), and the values of construction and of CLEAR (O16). The
608 channels and their memories at reset come down to `Chan608.reset` and `Mem608.reset`, and a CLEAR to one step of the idle block. -/

namespace Sys2Proof.Machine

/-! ## Reset values (70 R503) -/

@[simp] theorem State.reset_chan608 (k : BitVec 2) : State.reset.chan608 k = .reset :=
  Vector.getElem_replicate k.isLt

@[simp] theorem Chan608.reset_mem (b : Buf608) : Chan608.reset.mem b = .reset := by cases b <;> rfl

theorem Mem608.reset_rows (i : Fin 16) : Mem608.reset.rows[i] = [] := Vector.getElem_replicate i.isLt

theorem Dec608.reset_curChan (f : Fin 2) : Dec608.reset.curChan[f] = 0 := Vector.getElem_replicate f.isLt

/-! ## The invariants at reset -/

/-- No init segment is parsed at reset, and none is put back by a failure. -/
theorem State.reset_invSpaces : State.reset.InvSpaces := by
  obtain ⟨hinit, hmedia, hnalbuf, ht35⟩ := reset_spaces_wf
  exact ⟨hinit, hmedia, hnalbuf, ht35, nofun, nofun⟩

theorem State.reset_invInit : State.reset.InvInit where
  now := InitCtx.reset_agrees
  found := InitCtx.reset_agrees
  media hne := absurd rfl hne

/-- Construction leaves no period on record and no SUBMIT in progress. -/
theorem State.reset_invDedup : State.reset.InvDedup where
  nodup := List.nodup_nil
  noPeriod _ := rfl
  period hne := absurd rfl hne
  idle _ := rfl

/-! ## CLEAR (70 R501) -/

/-- Taking a CLEAR is the step of an idle block whose inbox it heads. -/
theorem step_clear {s : State} {r : List Transaction} (hp : s.phase = .idle) (hin : s.inbox = .clear :: r) :
    step s = .next (((s.clear).setInbox r).setOutbox (s.outbox ++ [TxResult.ofClear])) := by
  rw [step_of_none (step_idle_waits hp).1]
  simp only [State.control, hp, State.nextTransaction, hin]

/-- CLEAR brings S back to what it is after construction. -/
theorem State.clear_sameS (s : State) : SameS State.reset s.clear := ⟨rfl, rfl, rfl, rfl, rfl⟩

end Sys2Proof.Machine

open Sys2Proof Sys2Proof.Machine

/-- Settles O15, one invariant of the reset state after the other. -/
theorem resetMeetsInvariants : Obligations.ResetMeetsInvariants :=
  ⟨Dec608.reset_legal _, ⟨Dec708.reset_legal _, nofun⟩, State.reset_invSpaces, State.reset_invInit, State.reset_invDedup,
    invCursors_of_empty rfl rfl⟩

/-- Settles O16: the channels and memories of construction are the reset ones, and the step that takes a CLEAR (`step_clear`) makes S
what it is there. -/
theorem resetAndClear : Obligations.ResetAndClear := by
  refine ⟨⟨rfl, rfl, rfl, rfl, rfl, Dec608.reset_curChan, fun k => ?_, rfl, rfl⟩, fun s r hp hin => ?_⟩
  · rw [State.reset_chan608]
    refine ⟨rfl, rfl, rfl, rfl, fun b => ?_⟩
    rw [Chan608.reset_mem]
    exact ⟨Mem608.reset_rows, rfl, rfl, rfl⟩
  · exact ⟨_, step_clear hp hin, s.clear_sameS, rfl, rfl, rfl⟩
end
